-- ==== Sys2Proof/Word.lean ====
section
/-! DEFINITION. The word types of the block (00_scope.md rules R8 and R9): a byte, a lane, the array of 25 lanes. -/

namespace Sys2Proof

/-- "A byte is 8 bits" (R9). -/
abbrev Byte := BitVec 8

/-- "A lane is a 64-bit word" (R9); the host data width is 64 bits as well (R7). -/
abbrev Word := BitVec 64

/-- The 25 lanes `S[0]` to `S[24]` (R21); lane `x + 5 * y` stands at column `x` and row `y` (R22). -/
abbrev Lanes := Vector Word 25

end Sys2Proof
end

