-- ==== Sys2Proof/Syntax.lean ====
section
/-! DEFINITION. The seven commands of the block (30_encoding.md rule R72), which are its instructions. -/

namespace Sys2Proof

/-- A command with its operand fields. Operands are unsigned numbers taken as they stand (R80); the input address and
length are not fields: every hash command takes them from the registers `IN_ADDR` and `IN_LEN` (R70). -/
inductive Instr where
  /-- `PERMUTE nr` (R73): `nr` rounds of the permutation on the lanes as they stand. -/
  | permute (nr : Nat)
  /-- `HASH mdlen` (R74): one pass over the input window with a digest of `mdlen` bytes. -/
  | hash (mdlen : Nat)
  /-- `HASHI mdlen, k` (R75): `k` passes. -/
  | hashi (mdlen k : Nat)
  /-- `SUM224` (R76). -/
  | sum224
  /-- `SUM256` (R77). -/
  | sum256
  /-- `SUM384` (R78). -/
  | sum384
  /-- `SUM512` (R79). -/
  | sum512
deriving DecidableEq, Repr

end Sys2Proof
end

