-- ==== Sys2Proof/WellFormed.lean ====
section
/-! DEFINITION. Which commands have a command word: every operand fits its field (30_encoding.md rules R70 and R80).
An operand the block refuses (R82) is still well formed: its word matches a row of R72 and is decoded. -/

namespace Sys2Proof

/-- The digest length fits the 8-bit field `MDLEN`. -/
def fitsMdlen (mdlen : Nat) : Bool := decide (mdlen < 2 ^ 8)

/-- The round count fits the 8-bit field `NR`. -/
def fitsNr (nr : Nat) : Bool := decide (nr < 2 ^ 8)

/-- The iteration count fits the 32-bit field `ITER`. -/
def fitsIter (k : Nat) : Bool := decide (k < 2 ^ 32)

/-- Every operand of the command fits its field. -/
def Instr.wellFormed : Instr → Bool
  | .permute nr => fitsNr nr
  | .hash mdlen => fitsMdlen mdlen
  | .hashi mdlen k => fitsMdlen mdlen && fitsIter k
  | .sum224 => true
  | .sum256 => true
  | .sum384 => true
  | .sum512 => true

end Sys2Proof
end

