-- ==== Sys2Proof/Decode.lean ====
section
/-! DEFINITION. The command word (30_encoding.md rules R70 to R84): its fields, the decoder, the encoder. -/

namespace Sys2Proof

/-- Why a word is no command (R81). Both raise `InvalidCommand` (60_exceptions.md rule R181). -/
inductive Illegal where
  /-- `OP` is `0x00` or `0x08` to `0xFF`. -/
  | reservedOpcode
  /-- `OP` is one of the seven and a field that opcode does not use is not zero. -/
  | unusedField
deriving DecidableEq, Repr

/-- The field `w[lo + len - 1 : lo]` as an unsigned number (R8). -/
def bitField (w : Word) (lo len : Nat) : Nat := (w.toNat >>> lo) % 2 ^ len

/-- `OP`, bits 7:0 (R70). -/
def opField (w : Word) : Nat := bitField w 0 8
/-- `MDLEN`, bits 15:8 (R70). -/
def mdlenField (w : Word) : Nat := bitField w 8 8
/-- `NR`, bits 23:16 (R70). -/
def nrField (w : Word) : Nat := bitField w 16 8
/-- `RSV`, bits 31:24 (R70). -/
def rsvField (w : Word) : Nat := bitField w 24 8
/-- `ITER`, bits 63:32 (R70). -/
def iterField (w : Word) : Nat := bitField w 32 32

/-- The opcode numbers of R72. -/
def Instr.opcode : Instr → Nat
  | .permute _ => 0x01
  | .hash _ => 0x02
  | .hashi _ _ => 0x03
  | .sum224 => 0x04
  | .sum256 => 0x05
  | .sum384 => 0x06
  | .sum512 => 0x07

/-- A command whose unused fields are all zero, or the refusal of R81. -/
def ifZero (unused : List Nat) (i : Instr) : Except Illegal Instr :=
  if unused.all (· == 0) then .ok i else .error .unusedField

/-- The decoder of R83, total on all `2^64` words; the unused fields of each opcode are those R81 lists. -/
def decode (w : Word) : Except Illegal Instr :=
  match opField w with
  | 0x01 => ifZero [mdlenField w, rsvField w, iterField w] (.permute (nrField w))
  | 0x02 => ifZero [nrField w, rsvField w, iterField w] (.hash (mdlenField w))
  | 0x03 => ifZero [nrField w, rsvField w] (.hashi (mdlenField w) (iterField w))
  | 0x04 => ifZero [mdlenField w, nrField w, rsvField w, iterField w] .sum224
  | 0x05 => ifZero [mdlenField w, nrField w, rsvField w, iterField w] .sum256
  | 0x06 => ifZero [mdlenField w, nrField w, rsvField w, iterField w] .sum384
  | 0x07 => ifZero [mdlenField w, nrField w, rsvField w, iterField w] .sum512
  | _ => .error .reservedOpcode

/-- "The value of the word is `OP + 2^8 * MDLEN + 2^16 * NR + 2^24 * RSV + 2^32 * ITER`" (R70). -/
def commandWord (op mdlen nr rsv iter : Nat) : Word :=
  BitVec.ofNat 64 (op + 2 ^ 8 * mdlen + 2 ^ 16 * nr + 2 ^ 24 * rsv + 2 ^ 32 * iter)

/-- The word of a well-formed command (R73 to R79): a field it does not use is zero. -/
def encode : Instr → Word
  | .permute nr => commandWord 0x01 0 nr 0 0
  | .hash mdlen => commandWord 0x02 mdlen 0 0 0
  | .hashi mdlen k => commandWord 0x03 mdlen 0 0 k
  | .sum224 => commandWord 0x04 0 0 0 0
  | .sum256 => commandWord 0x05 0 0 0 0
  | .sum384 => commandWord 0x06 0 0 0 0
  | .sum512 => commandWord 0x07 0 0 0 0

/-- The command word the opcode table numbers by the bits `w` of a row of `nbits` bits; bits above `nbits` are zero.
A command is one 64-bit word (R84), so there is no byte order to choose. -/
def tableWord (nbits w : Nat) : Word := BitVec.ofNat 64 (w % 2 ^ nbits)

/-- What the decoder reads from the bits of a row of spec/opcode_table.json. -/
def decodeTableWord (nbits w : Nat) : Option Instr := (decode (tableWord nbits w)).toOption

end Sys2Proof
end

