-- ==== Sys2Proof/Config.lean ====
section
/-! DEFINITION. What one build of the block fixes, and the one value the spec leaves free. -/

namespace Sys2Proof

/-- The byte that address `addr` of the message memory holds after the `epoch`-th reset until it is written.
The spec says no rule speaks about it (R37, R212; 93_implementation_defined.md item U1, "any value": one unknown
byte per address, the same at every read). It has no body: a statement about it holds for every value.
Assumption log 2. -/
opaque Config.unwrittenByte (epoch addr : Nat) : Byte

/-- `MSG_SIZE` of `State.reset`. DESIGN CHOICE (assumption log 1): the spec leaves it an open parameter (R7); 4096 is
the value its vectors use. The machine reads the field `msgSize` of its state, never this constant. -/
def Config.resetMsgSize : Nat := 4096

end Sys2Proof
end

