-- ==== Sys2Proof/Machine/State.lean ====
section
/-! DEFINITION. The state of the block as plain data (10_state.md), what its environment can do, and the state after
reset. -/

namespace Sys2Proof.Machine

/-- What the sequencer does next (R33). -/
inductive Phase where
  | idle | init | absorb | pad | final | squeeze | next | perm
deriving DecidableEq, Repr

/-- The address space a pass reads its input from, the register `SRC` (R33). -/
inductive Source where
  | msg | dig
deriving DecidableEq, Repr

/-- The address spaces the host reaches (R15). -/
inductive Space where
  | reg | msg
deriving DecidableEq, Repr

/-- The registers of the space `REG` (R30). -/
inductive Reg where
  | cmd | status | inAddr | inLen
  | digest (j : Fin 8)
  | lane (i : Fin 25)
deriving DecidableEq, Repr

/-- The five command errors (60_exceptions.md rule R180). -/
inductive CmdError where
  | invalidDigestLength | bufferTooSmall | invalidIterations | invalidRounds | invalidCommand
deriving DecidableEq, Repr

/-- A host transaction (R15). The value of a write is an `8 * n`-bit number: its bits above `8 * n` play no part
(assumption log 11). -/
inductive Transaction where
  | read (space : Space) (addr n : Nat)
  | write (space : Space) (addr n : Nat) (v : Word)
deriving DecidableEq, Repr

/-- The block's answer to a transaction (R15): `OK(v)`, `OK` or `ERROR`. A read of `n` bytes answers with an
`8 * n`-bit number, held here in 64 bits. -/
inductive Answer where
  | value (v : Word)
  | ok
  | error
deriving DecidableEq, Repr

/-- What the environment does next (assumption log 4): the host issues a transaction, the engine is given one step, or
the reset input is asserted. `wait` says whether the running command, if there is one, finishes before the host's next
transaction (R20 and R196 let a model fold the engine's run; assumption log 6). -/
inductive Event where
  | host (t : Transaction) (wait : Bool)
  | engine
  | reset
deriving DecidableEq, Repr

/-- Why a step stops with a fault. There is none: every word written to `CMD` and every transaction has a defined
outcome, and a started command cannot fail (93_implementation_defined.md section 1, R83, R190). Nothing raises it
(assumption log 15). -/
inductive Fault where
deriving DecidableEq, Repr

/-- Why a step has no meaning. -/
inductive Refusal where
  /-- An instruction of the opcode table without a meaning; raised by an arm of `exec` only, and safe. No arm of this
  model raises it. -/
  | notModelled (mnemonic : String)
deriving DecidableEq, Repr

/-- The whole state: what the host can see (R38), what it cannot (R32 to R34), the build parameter `MSG_SIZE`
(R35, assumption log 1), and three fields of the model itself (assumption logs 2 and 4). -/
structure State where
  /-- `S[0]` to `S[24]` (R21). -/
  lanes : Lanes
  /-- `CMD` (R25). -/
  cmd : Word
  /-- `STATUS.BUSY`, bit 0 (R26, R27). -/
  busy : Bool
  /-- `STATUS.DONE`, bit 1. -/
  done : Bool
  /-- `STATUS.ERR`, bit 2. -/
  err : Bool
  /-- `STATUS.ECODE`, bits 15:8. -/
  ecode : Byte
  /-- `STATUS.DLEN`, bits 23:16. -/
  dlen : Byte
  /-- `IN_ADDR` (R28). -/
  inAddr : Word
  /-- `IN_LEN` (R28). -/
  inLen : Word
  /-- `DIG[0]` to `DIG[63]` (R29). -/
  dig : Vector Byte 64
  /-- The bytes of `MSG` (R31) written since the last reset: addresses strictly rising. An address that is not listed
  has not been written and has no value here. -/
  msg : List Host.Cell
  /-- `BLK[0]` to `BLK[143]` (R32). -/
  blk : Vector Byte 144
  /-- `PHASE` (R33). -/
  phase : Phase
  /-- `OPL`, the latched opcode (R33). -/
  opl : Byte
  /-- `MDL`, the latched digest length in bytes (R33). -/
  mdl : Nat
  /-- `RSIZ`, the rate in bytes (R33). -/
  rsiz : Nat
  /-- `RSIZW`, the rate in lanes (R33). -/
  rsizw : Nat
  /-- `SRC`, the space the current pass reads (R33). -/
  src : Source
  /-- `PTR`, the address of the next unread input byte (R33). -/
  ptr : Nat
  /-- `REM`, the count of input bytes not yet absorbed (R33). -/
  rem : Nat
  /-- `KREQ`, the requested number of passes (R33). -/
  kreq : Nat
  /-- `PASS`, the number of the current pass (R33). -/
  pass : Nat
  /-- `NRL`, the latched round count (R33). -/
  nrl : Nat
  /-- `RND`, the index of the next round (R33). -/
  rnd : Nat
  /-- `BC[0]` to `BC[4]` (R34). -/
  bc : Vector Word 5
  /-- `T` (R34). -/
  tmp : Word
  /-- `MSG_SIZE`, fixed when the block is built (R35). -/
  msgSize : Nat
  /-- How many resets there have been since power-on: it selects the unknown contents of `MSG` (R212). -/
  resets : Nat
  /-- What the environment does next, in order. -/
  events : List Event
  /-- The answer to the most recent transaction. -/
  answer : Option Answer
deriving DecidableEq, Repr

/-- The block after a reset (R37, R210): the host-visible registers zero, `PHASE = IDLE`, nothing of `MSG` written.
The spec leaves the other hidden registers unspecified; their zeros here are a DESIGN CHOICE (assumption log 3). -/
def State.afterReset (msgSize resets : Nat) (events : List Event) : State where
  lanes := Vector.replicate 25 0
  cmd := 0
  busy := false
  done := false
  err := false
  ecode := 0
  dlen := 0
  inAddr := 0
  inLen := 0
  dig := Vector.replicate 64 0
  msg := []
  blk := Vector.replicate 144 0
  phase := .idle
  opl := 0
  mdl := 0
  rsiz := 0
  rsizw := 0
  src := .msg
  ptr := 0
  rem := 0
  kreq := 0
  pass := 0
  nrl := 0
  rnd := 0
  bc := Vector.replicate 5 0
  tmp := 0
  msgSize := msgSize
  resets := resets
  events := events
  answer := none

/-- The machine right after power-on, with no transaction issued yet. -/
def State.reset : State := State.afterReset Config.resetMsgSize 0 []

end Sys2Proof.Machine
end

