-- ==== Sys2Proof/Machine/Flags.lean ====
section
/-! DEFINITION. The fields of `STATUS` (10_state.md rules R26 and R27) and the error codes (60_exceptions.md rule R180). -/

namespace Sys2Proof.Machine

/-- The code of a command error in `STATUS.ECODE` (R180). -/
def CmdError.code : CmdError → Byte
  | .invalidDigestLength => 1
  | .bufferTooSmall => 2
  | .invalidIterations => 3
  | .invalidRounds => 4
  | .invalidCommand => 5

/-- The 64-bit word a read of `STATUS` returns: `BUSY` bit 0, `DONE` bit 1, `ERR` bit 2, `ECODE` bits 15:8, `DLEN` bits
23:16, every other bit zero (R26). -/
def State.statusWord (s : State) : Word :=
  BitVec.ofNat 64
    (s.busy.toNat + 2 * s.done.toNat + 4 * s.err.toNat + 2 ^ 8 * s.ecode.toNat + 2 ^ 16 * s.dlen.toNat)

/-- Every write of `CMD` while idle clears `DONE`, `ERR` and `ECODE` before the word is decoded (R27, R71 step 1). -/
def State.clearFlags (s : State) : State := { s with done := false, err := false, ecode := 0 }

end Sys2Proof.Machine
end

