-- ==== Sys2Proof/Machine/Ops.lean ====
section
/-! DEFINITION. The operations the meanings share: words and bytes, lanes, the message memory, the register space,
recording a command error and leaving it, starting and completing a command. -/

namespace Sys2Proof.Machine

/-! ### Words and bytes -/

/-- `ROTL64(v, r)` (R12), used with `1 <= r <= 63` only. -/
def rotl64 (v : Word) (r : Nat) : Word := (v <<< r) ||| (v >>> (64 - r))

/-- `B[0] + 2^8 * B[1] + 2^16 * B[2] + ...`, least significant byte first (R11, R50). -/
def leNat : List Byte → Nat
  | [] => 0
  | b :: bs => b.toNat + 2 ^ 8 * leNat bs

/-- `LE64(B)` (R11); for fewer than eight bytes the missing high bytes are zero. -/
def le64 (bs : List Byte) : Word := BitVec.ofNat 64 (leNat bs)

/-- `v[8k+7 : 8k]`. -/
def byteOf (v : Word) (k : Nat) : Byte := BitVec.ofNat 8 (v.toNat >>> (8 * k))

/-- `BYTES8(v)` (R11): the bytes of `v`, least significant first. -/
def bytes8 (v : Word) : List Byte := (List.range 8).map (byteOf v)

/-- The array whose element `i` is `f i`. -/
def tabulate {α : Type} (n : Nat) (f : Nat → α) : Vector α n := ⟨((List.range n).map f).toArray, by simp⟩

/-- `S[i]` (R13). Every index the block forms is 0 to 24; outside that range the answer is zero (assumption log 14). -/
def lane (A : Lanes) (i : Nat) : Word := A.toList.getD i 0

/-- The state with all 25 lanes zero. -/
def zeroLanes : Lanes := Vector.replicate 25 0

/-- Byte `b` of the 200-byte image of the lanes (R23, R53): `(S[b / 8] >> (8 * (b mod 8)))[7:0]`. -/
def stateByte (A : Lanes) (b : Nat) : Byte := byteOf (lane A (b / 8)) (b % 8)

/-- `StateBytes(S)` (R53): the bytes of `S[0]`, then those of `S[1]`, and so on. -/
def stateBytes (A : Lanes) : List Byte := A.toList.flatMap bytes8

/-! ### The message memory -/

/-- The byte last written at an address since the last reset, if there is one. -/
def Memory.lookup : List Host.Cell → Nat → Option Byte
  | [], _ => none
  | (b, v) :: m, a => if a = b then some v else Memory.lookup m a

/-- Writes one byte, keeping the addresses strictly rising. -/
def Memory.store : List Host.Cell → Nat → Byte → List Host.Cell
  | [], a, v => [(a, v)]
  | (b, w) :: m, a, v =>
    if a < b then (a, v) :: (b, w) :: m
    else if a = b then (a, v) :: m
    else (b, w) :: Memory.store m a v

/-- Writes a byte sequence, its first byte at address `a` (R51, R57). -/
def Memory.storeBytes : List Host.Cell → Nat → List Byte → List Host.Cell
  | m, _, [] => m
  | m, a, v :: vs => Memory.storeBytes (Memory.store m a v) (a + 1) vs

/-- The canonical form: addresses strictly rising. No cell equals what an unlisted address reads as, because an
unlisted address has no value. -/
def Memory.wf : List Host.Cell → Bool
  | [] => true
  | [_] => true
  | (a, _) :: (b, w) :: m => decide (a < b) && Memory.wf ((b, w) :: m)

/-- `MSG[a]`: the byte written there, else the unknown byte of the spec's item U1 (assumption log 2). -/
def State.msgByte (s : State) (a : Nat) : Byte :=
  (Memory.lookup s.msg a).getD (Config.unwrittenByte s.resets a)

/-- `DIG[b]`, `0 <= b <= 63` (R29); zero outside that range (assumption log 14). -/
def State.digByte (s : State) (b : Nat) : Byte := s.dig.toList.getD b 0

/-- `BLK[j]`, `0 <= j <= 143` (R32); zero outside that range (assumption log 14). -/
def State.blkByte (s : State) (j : Nat) : Byte := s.blk.toList.getD j 0

/-- One byte of a space the engine reads its input from. -/
def State.sourceByte (s : State) : Source → Nat → Byte
  | .msg, a => s.msgByte a
  | .dig, a => s.digByte a

/-- `MemRead(space, addr, n)` (R14): the `n` bytes from `addr` up, lowest address first. -/
def State.memRead (s : State) (space : Source) (addr n : Nat) : List Byte :=
  (List.range n).map fun k => s.sourceByte space (addr + k)

/-- `LoadLane(space, a)` (R52); no alignment is needed (R59). -/
def State.loadLane (s : State) (space : Source) (a : Nat) : Word := le64 (s.memRead space a 8)

/-! ### The register space -/

/-- The register at an offset of `REG` (R30); every other offset is unmapped, those above `0x1FF` too
(assumption log 12). -/
def regAt (addr : Nat) : Option Reg :=
  if addr % 8 ≠ 0 then none
  else if addr = 0x000 then some .cmd
  else if addr = 0x008 then some .status
  else if addr = 0x010 then some .inAddr
  else if addr = 0x018 then some .inLen
  else if h : 0x040 ≤ addr ∧ addr ≤ 0x078 then some (.digest ⟨(addr - 0x040) / 8, by omega⟩)
  else if h : 0x100 ≤ addr ∧ addr ≤ 0x1C0 then some (.lane ⟨(addr - 0x100) / 8, by omega⟩)
  else none

/-- Which registers the host may write (R30, R56). -/
def Reg.writable : Reg → Bool
  | .cmd => true
  | .status => false
  | .inAddr => true
  | .inLen => true
  | .digest _ => false
  | .lane _ => true

/-- The 64 bits of a register. Reading has no side effect (R56, R60). `DIGESTj = LE64(DIG[8j .. 8j+8))` (R29). -/
def State.readReg (s : State) : Reg → Word
  | .cmd => s.cmd
  | .status => s.statusWord
  | .inAddr => s.inAddr
  | .inLen => s.inLen
  | .digest j => s.loadLane .dig (8 * j.val)
  | .lane i => lane s.lanes i.val

/-! ### A command: its word, its errors, its start and its end -/

/-- Step 1 of issuing a command (R71): the word is stored and the flags of the command before are cleared. This is also
how the block leaves the error state (R191): nothing else restores anything. -/
def State.latch (s : State) (w : Word) : State := { s.clearFlags with cmd := w }

/-- A host write that replaces the whole register (R56). `CMD` is latched; the read-only registers keep their value
(no write of them is allowed). -/
def State.writeReg (s : State) (r : Reg) (v : Word) : State :=
  match r with
  | .cmd => s.latch v
  | .status => s
  | .inAddr => { s with inAddr := v }
  | .inLen => { s with inLen := v }
  | .digest _ => s
  | .lane i => { s with lanes := s.lanes.set i v }

/-- Recording a command error (R188), the one shared operation of every refused command: `ERR`, `ECODE` and `DONE` are
set, `BUSY` stays as it is, nothing else changes. -/
def State.recordError (s : State) (e : CmdError) : State :=
  { s with err := true, ecode := e.code, done := true }

/-- Starting a valid command (R189): `BUSY` is set, the opcode latched, the first phase chosen. -/
def State.start (s : State) (op : Byte) (p : Phase) : State := { s with busy := true, opl := op, phase := p }

/-- Completing a command (R190), as one step. -/
def State.complete (s : State) : State := { s with busy := false, done := true, phase := .idle }

/-- The reset input (R210): every register as after reset, `MSG` unspecified anew (R212), a running command abandoned
(R211). The transactions the host has not issued yet are the environment's and stay (assumption log 13). -/
def State.resetInput (s : State) : State := State.afterReset s.msgSize (s.resets + 1) s.events

end Sys2Proof.Machine
end

