-- ==== Sys2Proof/Machine/Operands.lean ====
section
/-! DEFINITION. The operands of the commands (30_encoding.md rule R80) and the checks they must pass
(60_exceptions.md rules R182 to R185), in the order of R186. -/

namespace Sys2Proof.Machine

/-- `MDLEN_SET` (R6): the digest lengths for which the block is valid. -/
def legalMdlen (mdlen : Nat) : Bool := mdlen == 28 || mdlen == 32 || mdlen == 48 || mdlen == 64

/-- The input window lies inside `MSG`: `IN_ADDR + IN_LEN <= MSG_SIZE`, summed without wrap-around (R9, R183). -/
def State.windowFits (s : State) : Bool := decide (s.inAddr.toNat + s.inLen.toNat ≤ s.msgSize)

/-- The message of a hash command (R28, R160): the `IN_LEN` bytes of `MSG` from `IN_ADDR` up. -/
def State.message (s : State) : List Byte := s.memRead .msg s.inAddr.toNat s.inLen.toNat

/-- The check of a `PERMUTE` (R184). -/
def permuteCheck (nr : Nat) : Option CmdError := if nr ≤ 24 then none else some .invalidRounds

/-- The checks of a hash command with digest length `mdlen` and `k` passes (R182, R185, R183), the first that fails
being the one reported (R186). -/
def State.hashCheck (s : State) (mdlen k : Nat) : Option CmdError :=
  if legalMdlen mdlen = false then some .invalidDigestLength
  else if k = 0 then some .invalidIterations
  else if s.windowFits = false then some .bufferTooSmall
  else none

end Sys2Proof.Machine
end

