-- ==== Sys2Proof/Machine/Permutation.lean ====
section
/-! DEFINITION. The permutation unit (40_permutation.md rules R100 to R114): the tables, the four steps, the round, the
permutation of a round count, and the engine's round step. -/

namespace Sys2Proof.Machine

/-- The table of R101 as the spec prints it: row `i` holds `RC[i]` and `RC[i + 12]`. -/
def roundConstantRows : List (Word × Word) :=
  [(0x0000000000000001, 0x000000008000808B),
   (0x0000000000008082, 0x800000000000008B),
   (0x800000000000808A, 0x8000000000008089),
   (0x8000000080008000, 0x8000000000008003),
   (0x000000000000808B, 0x8000000000008002),
   (0x0000000080000001, 0x8000000000000080),
   (0x8000000080008081, 0x000000000000800A),
   (0x8000000000008009, 0x800000008000000A),
   (0x000000000000008A, 0x8000000080008081),
   (0x0000000000000088, 0x8000000000008080),
   (0x0000000080008009, 0x0000000080000001),
   (0x000000008000000A, 0x8000000080008008)]

/-- The round constants `RC[0]` to `RC[23]` (R101): the left column of the table, then the right one. -/
def roundConstants : List Word := roundConstantRows.map Prod.fst ++ roundConstantRows.map Prod.snd

/-- The rotation offsets `ROTC[0]` to `ROTC[23]` (R102). -/
def rotationOffsets : List Nat :=
  [1, 3, 6, 10, 15, 21, 28, 36, 45, 55, 2, 14, 27, 41, 56, 8, 25, 43, 62, 18, 39, 61, 20, 44]

/-- The lane permutation indices `PILN[0]` to `PILN[23]` (R103). -/
def laneWalk : List (Fin 25) :=
  [10, 7, 11, 17, 18, 3, 5, 16, 8, 21, 24, 4, 15, 23, 19, 13, 12, 2, 20, 14, 22, 9, 6, 1]

/-- `RC[r]`; `r` is never outside 0 to 23 (R109), where the answer is zero (assumption log 14). -/
def roundConstant (r : Nat) : Word := roundConstants.getD r 0

/-- `C[x]` of R105, the parity of column `x`. -/
def columnParity (A : Lanes) (x : Nat) : Word :=
  lane A x ^^^ lane A (x + 5) ^^^ lane A (x + 10) ^^^ lane A (x + 15) ^^^ lane A (x + 20)

/-- `D[x]` of R105: the parity of the column before, and that of the column after rotated by one (90_conflicts.md C1). -/
def columnCorrection (A : Lanes) (x : Nat) : Word :=
  columnParity A ((x + 4) % 5) ^^^ rotl64 (columnParity A ((x + 1) % 5)) 1

/-- Theta (R105). -/
def theta (A : Lanes) : Lanes := tabulate 25 fun i => lane A i ^^^ columnCorrection A (i % 5)

/-- One turn of the walk of R106, on the working copy `W` and the rolling temporary `T`: the lane at `j` is kept, the
rotated temporary takes its place, and what was kept becomes the temporary. -/
def rhoPiTurn (wt : Lanes × Word) (jr : Fin 25 × Nat) : Lanes × Word :=
  (wt.1.set jr.1 (rotl64 wt.2 jr.2), lane wt.1 jr.1)

/-- The turns of R106: the pairs `(PILN[t], ROTC[t])`, `t` = 0 to 23. -/
def rhoPiWalk : List (Fin 25 × Nat) := laneWalk.zip rotationOffsets

/-- Rho+Pi, sequential form (R106): the walk starts with lane 1 in the temporary. -/
def rhoPi (A : Lanes) : Lanes := (rhoPiWalk.foldl rhoPiTurn (A, lane A 1)).1

/-- Chi (R108), all five lanes of a row from the values the row had before. -/
def chi (A : Lanes) : Lanes :=
  tabulate 25 fun i =>
    lane A i ^^^ (~~~ lane A (5 * (i / 5) + (i % 5 + 1) % 5) &&& lane A (5 * (i / 5) + (i % 5 + 2) % 5))

/-- Iota (R109). -/
def iota (A : Lanes) (r : Nat) : Lanes := A.set 0 (lane A 0 ^^^ roundConstant r)

/-- One round with index `r` (R110). -/
def keccakRound (A : Lanes) (r : Nat) : Lanes := iota (chi (rhoPi (theta A))) r

/-- `KeccakP(A, nr)` (R111): rounds `0` to `nr - 1`, so the first `nr` round constants. -/
def keccakP (A : Lanes) : Nat → Lanes
  | 0 => A
  | nr + 1 => keccakRound (keccakP A nr) nr

/-- `KeccakF(A) = KeccakP(A, 24)` (R111). -/
def keccakF (A : Lanes) : Lanes := keccakP A 24

/-- One round of the engine (R113): `S <- Round(S, RND)`, `RND <- RND + 1`. `BC` and `T` are left as the steps of a
round leave them (DEDUCED from R105, R106, R108; assumption log 8): Chi copies the last row into `BC`, and `T` is the
value lane 1 had when Rho+Pi began. -/
def State.roundStep (s : State) : State :=
  { s with
    lanes := keccakRound s.lanes s.rnd
    bc := tabulate 5 fun x => lane (rhoPi (theta s.lanes)) (20 + x)
    tmp := lane (theta s.lanes) 1
    rnd := s.rnd + 1 }

/-- `n` rounds, one after another. -/
def State.rounds : Nat → State → State
  | 0, s => s
  | n + 1, s => State.rounds n s.roundStep

/-- The whole permutation inside a pass (R113, R132): `RND <- 0`, then `NRL` rounds; a hash command has set `NRL` to
24 (R160). -/
def State.permutation (s : State) : State := State.rounds s.nrl { s with rnd := 0 }

end Sys2Proof.Machine
end

