-- ==== Sys2Proof/Machine/Sponge.lean ====
section
/-! DEFINITION. The sponge unit (41_sponge.md rules R130 to R140): one pass as a function of bytes, and the register
transfers the engine makes for it. -/

namespace Sys2Proof.Machine

/-! ### As functions -/

/-- `Rate(mdlen) = 200 - 2 * mdlen`, in bytes (R130). -/
def rate (mdlen : Nat) : Nat := 200 - 2 * mdlen

/-- The first `n` lanes XORed with the words `w 0`, `w 1`, ...; the others, the capacity, untouched (R133). -/
def xorLanes (A : Lanes) (n : Nat) (w : Nat → Word) : Lanes :=
  tabulate 25 fun i => if i < n then lane A i ^^^ w i else lane A i

/-- `LE64(B[8i .. 8i+8))` (R52). -/
def blockLane (B : List Byte) (i : Nat) : Word := le64 ((B.drop (8 * i)).take 8)

/-- `AbsorbBlock(A, B, rsizw)` (R133). -/
def absorbBlock (A : Lanes) (B : List Byte) (rsizw : Nat) : Lanes := keccakF (xorLanes A rsizw (blockLane B))

/-- `Pad(Tl, rsiz)` (R134): the tail, 0x06, zeros, and 0x80 ORed into the last byte. -/
def padBlock (tail : List Byte) (rsiz : Nat) : List Byte :=
  let B := tail ++ [0x06] ++ List.replicate (rsiz - tail.length - 1) 0x00
  B.set (rsiz - 1) (B.getD (rsiz - 1) 0 ||| 0x80)

/-- The first `q` blocks of `M` absorbed in order (R137). -/
def absorbBlocks (M : List Byte) (rsiz : Nat) : Nat → Lanes
  | 0 => zeroLanes
  | b + 1 => absorbBlock (absorbBlocks M rsiz b) ((M.drop (b * rsiz)).take rsiz) (rsiz / 8)

/-- The final state of a pass over `M` (R137): the full blocks, then the padded rest. -/
def spongeLanes (M : List Byte) (mdlen : Nat) : Lanes :=
  let rsiz := rate mdlen
  let q := M.length / rsiz
  absorbBlock (absorbBlocks M rsiz q) (padBlock (M.drop (q * rsiz)) rsiz) (rsiz / 8)

/-- `Squeeze(A, mdlen)` (R136). -/
def squeeze (A : Lanes) (mdlen : Nat) : List Byte := (stateBytes A).take mdlen

/-- `Sponge(M, mdlen)` (R137): the digest and the final state. -/
def sponge (M : List Byte) (mdlen : Nat) : List Byte × Lanes :=
  (squeeze (spongeLanes M mdlen) mdlen, spongeLanes M mdlen)

/-! ### As register transfers -/

/-- `INIT(mdlen, src, a, n)` (R131), with `mdlen` the latched `MDL`. -/
def State.initPass (s : State) (src : Source) (a n : Nat) : State :=
  { s with
    lanes := zeroLanes
    rsiz := rate s.mdl
    rsizw := rate s.mdl / 8
    src := src
    ptr := a
    rem := n }

/-- The lanes with one full block of the input XORed in (R133). -/
def State.xorInput (s : State) : State :=
  { s with lanes := xorLanes s.lanes s.rsizw fun i => s.loadLane s.src (s.ptr + 8 * i) }

/-- `PTR <- PTR + RSIZ; REM <- REM - RSIZ` (R133). -/
def State.nextBlock (s : State) : State := { s with ptr := s.ptr + s.rsiz, rem := s.rem - s.rsiz }

/-- Absorbing one full block (R133). -/
def State.absorbFull (s : State) : State := s.xorInput.permutation.nextBlock

/-- `BLK[j]` after the first three assignments of the pad step (R134): the tail, the separator, the zeros; bytes from
`RSIZ` up keep their value. -/
def State.unfinishedBlk (s : State) (j : Nat) : Byte :=
  if j < s.rem then s.sourceByte s.src (s.ptr + j)
  else if j = s.rem then 0x06
  else if j < s.rsiz then 0x00
  else s.blkByte j

/-- The pad step (R134); the OR into `BLK[RSIZ-1]` comes last. -/
def State.padStep (s : State) : State :=
  { s with
    blk := tabulate 144 fun j => if j + 1 = s.rsiz then s.unfinishedBlk j ||| 0x80 else s.unfinishedBlk j }

/-- The lanes with the padded block XORed in (R135). -/
def State.xorBlk (s : State) : State :=
  { s with lanes := xorLanes s.lanes s.rsizw fun i => le64 ((List.range 8).map fun k => s.blkByte (8 * i + k)) }

/-- Absorbing the padded block (R135). -/
def State.absorbFinal (s : State) : State := s.xorBlk.permutation

/-- The squeeze step (R136): the first `MDL` bytes of the state, then zeros. -/
def State.squeezeStep (s : State) : State :=
  { s with dig := tabulate 64 fun b => if b < s.mdl then stateByte s.lanes b else 0x00 }

end Sys2Proof.Machine
end

