-- ==== Sys2Proof/Machine/Engine.lean ====
section
/-! DEFINITION. The engine: one step by `PHASE` (40_permutation.md rule R113, 41_sponge.md rule R138, 42_digest.md rule
R162), how many steps a running command still needs, and the run to its completion. -/

namespace Sys2Proof.Machine

/-- The step of phase `PERM` (R113): a round while `RND < NRL`, then completion (R190). -/
def State.permStep (s : State) : State := if s.rnd < s.nrl then s.roundStep else s.complete

/-- The step of phase `INIT` (R138, R162): the first pass reads the input window of `MSG`. -/
def State.initStep (s : State) : State :=
  { s.initPass .msg s.inAddr.toNat s.inLen.toNat with phase := .absorb }

/-- The step of phase `ABSORB` (R138): a full block while one is left, else on to `PAD`. -/
def State.absorbStep (s : State) : State :=
  if s.rsiz ≤ s.rem then s.absorbFull else { s with phase := .pad }

/-- The step of phase `NEXT` (R162): another pass over the digest just written, or completion with `DLEN <- MDL`. -/
def State.nextStep (s : State) : State :=
  if s.pass < s.kreq then
    { s.initPass .dig 0 s.mdl with pass := s.pass + 1, phase := .absorb }
  else
    { s.complete with dlen := BitVec.ofNat 8 s.mdl }

/-- One step of the engine. An idle engine does nothing (R202). `BUSY = 1` with `PHASE = IDLE` is never reached and does
nothing either (assumption log 14). -/
def State.advance (s : State) : State :=
  if s.busy then
    match s.phase with
    | .idle => s
    | .perm => s.permStep
    | .init => s.initStep
    | .absorb => s.absorbStep
    | .pad => { s.padStep with phase := .final }
    | .final => { s.absorbFinal with phase := .squeeze }
    | .squeeze => { s.squeezeStep with phase := .next }
    | .next => s.nextStep
  else s

/-- `n` steps of the engine. -/
def State.run : Nat → State → State
  | 0, s => s
  | n + 1, s => State.run n s.advance

/-- The steps of the passes still to come: five each, because a later pass is always one padded block (R161). -/
def State.laterPassSteps (s : State) : Nat := 5 * (s.kreq - s.pass)

/-- How many steps a running command needs until it completes (R193). -/
def State.stepsLeft (s : State) : Nat :=
  if s.busy then
    match s.phase with
    | .idle => 0
    | .perm => s.nrl - s.rnd + 1
    | .init => s.inLen.toNat / rate s.mdl + 6 + s.laterPassSteps
    | .absorb => s.rem / s.rsiz + 5 + s.laterPassSteps
    | .pad => 4 + s.laterPassSteps
    | .final => 3 + s.laterPassSteps
    | .squeeze => 2 + s.laterPassSteps
    | .next => 1 + s.laterPassSteps
  else 0

/-- The running command, if there is one, run to its completion (R193, R196). -/
def State.finish (s : State) : State := State.run s.stepsLeft s

end Sys2Proof.Machine
end

