-- ==== Sys2Proof/Machine/Digest.lean ====
section
/-! DEFINITION. The digest engine (42_digest.md rules R160 to R169): iterated hashing and the six hash commands. -/

namespace Sys2Proof.Machine

/-- `n` more passes, each over the digest of the pass before (R161). -/
def rehash (mdlen : Nat) : Nat → List Byte × Lanes → List Byte × Lanes
  | 0, r => r
  | n + 1, r => rehash mdlen n (sponge r.1 mdlen)

/-- `HashIter(M, mdlen, k)` (R161), `k >= 1`. -/
def hashIter (M : List Byte) (mdlen k : Nat) : List Byte × Lanes := rehash mdlen (k - 1) (sponge M mdlen)

/-- Starting a hash command (R160, R162, R189): `MDL`, `KREQ` and `NRL` latched, first pass, `DIG` and `DLEN` cleared,
phase `INIT`. -/
def State.startHash (s : State) (op : Byte) (mdlen k : Nat) : State :=
  { s.start op .init with
    mdl := mdlen
    kreq := k
    nrl := 24
    pass := 1
    dig := Vector.replicate 64 0
    dlen := 0 }

/-- A hash command up to its start (R160): its checks in the order of R186, then the start. -/
def State.hashCommand (s : State) (op : Byte) (mdlen k : Nat) : State :=
  match s.hashCheck mdlen k with
  | some e => s.recordError e
  | none => s.startHash op mdlen k

/-- `HASH mdlen` up to its start (R163). -/
def beginHash (mdlen : Nat) (s : State) : State := s.hashCommand 0x02 mdlen 1
/-- `HASHI mdlen, k` up to its start (R164). -/
def beginHashi (mdlen k : Nat) (s : State) : State := s.hashCommand 0x03 mdlen k
/-- `SUM224` up to its start (R165). -/
def beginSum224 (s : State) : State := s.hashCommand 0x04 28 1
/-- `SUM256` up to its start (R166). -/
def beginSum256 (s : State) : State := s.hashCommand 0x05 32 1
/-- `SUM384` up to its start (R167). -/
def beginSum384 (s : State) : State := s.hashCommand 0x06 48 1
/-- `SUM512` up to its start (R168). -/
def beginSum512 (s : State) : State := s.hashCommand 0x07 64 1

/-- `HASH mdlen` (R163), whole. -/
def execHash (mdlen : Nat) (s : State) : Host.Outcome State Fault Refusal := .next (beginHash mdlen s).finish
/-- `HASHI mdlen, k` (R164), whole. -/
def execHashi (mdlen k : Nat) (s : State) : Host.Outcome State Fault Refusal := .next (beginHashi mdlen k s).finish
/-- `SUM224` (R165), whole. -/
def execSum224 (s : State) : Host.Outcome State Fault Refusal := .next (beginSum224 s).finish
/-- `SUM256` (R166), whole. -/
def execSum256 (s : State) : Host.Outcome State Fault Refusal := .next (beginSum256 s).finish
/-- `SUM384` (R167), whole. -/
def execSum384 (s : State) : Host.Outcome State Fault Refusal := .next (beginSum384 s).finish
/-- `SUM512` (R168), whole. -/
def execSum512 (s : State) : Host.Outcome State Fault Refusal := .next (beginSum512 s).finish

end Sys2Proof.Machine
end

