-- ==== Sys2Proof/Machine/Permute.lean ====
section
/-! DEFINITION. The command `PERMUTE` (40_permutation.md rule R112). -/

namespace Sys2Proof.Machine

/-- Starting a permutation of `nr` rounds (R113, R189): `NRL <- nr`, `RND <- 0`, phase `PERM`. -/
def State.startPermute (s : State) (nr : Nat) : State := { s.start 0x01 .perm with nrl := nr, rnd := 0 }

/-- `PERMUTE nr` up to its start: refused with `InvalidRounds` when `nr > 24` (R184), else started. -/
def beginPermute (nr : Nat) (s : State) : State :=
  match permuteCheck nr with
  | some e => s.recordError e
  | none => s.startPermute nr

/-- `PERMUTE nr` (R112), whole: `S <- KeccakP(S, nr)`. -/
def execPermute (nr : Nat) (s : State) : Host.Outcome State Fault Refusal := .next (beginPermute nr s).finish

end Sys2Proof.Machine
end

