-- ==== Sys2Proof/Machine/Dispatch.lean ====
section
/-! DEFINITION. One arm per command. `exec i s` is the whole command, from a state whose `CMD` has been latched
(30_encoding.md rule R71 step 1) to its completion or refusal (60_exceptions.md rule R196). -/

namespace Sys2Proof.Machine

def exec (i : Instr) (s : State) : Host.Outcome State Fault Refusal :=
  match i with
  | .permute nr => Sys2Proof.Machine.execPermute nr s
  | .hash mdlen => Sys2Proof.Machine.execHash mdlen s
  | .hashi mdlen k => Sys2Proof.Machine.execHashi mdlen k s
  | .sum224 => Sys2Proof.Machine.execSum224 s
  | .sum256 => Sys2Proof.Machine.execSum256 s
  | .sum384 => Sys2Proof.Machine.execSum384 s
  | .sum512 => Sys2Proof.Machine.execSum512 s

end Sys2Proof.Machine
end

