-- ==== Sys2Proof/Machine/HostPort.lean ====
section
/-! DEFINITION. The host port: which transactions answer `OK` (20_memory.md rules R56 to R58), what they do, and issuing
a command (30_encoding.md rule R71). -/

namespace Sys2Proof.Machine

/-- The one transaction that answers `OK` while a command runs: `HostRead(REG, 0x008, 8)` (R58). -/
def Transaction.isStatusRead : Transaction → Bool
  | .read .reg addr n => addr == 0x008 && n == 8
  | .read .msg _ _ => false
  | .write _ _ _ _ => false

/-- The widths of a host access to `MSG` (R57). -/
def legalMsgWidth (n : Nat) : Bool := n == 1 || n == 2 || n == 4 || n == 8

/-- The bytes of the access lie inside `MSG` and its width is legal (R57); no alignment is required. -/
def State.msgAccess (s : State) (addr n : Nat) : Bool := legalMsgWidth n && decide (addr + n ≤ s.msgSize)

/-- The access names a register it may reach: 8 bytes, 8-byte aligned, mapped, and writable if it is a write (R56). -/
def regAccess (isWrite : Bool) (addr n : Nat) : Bool :=
  n == 8 && (regAt addr).any fun r => !isWrite || r.writable

/-- The transaction is allowed by the rules of its space, the busy lock apart (R56, R57). -/
def State.spaceAllows (s : State) : Transaction → Bool
  | .read .reg addr n => regAccess false addr n
  | .read .msg addr n => s.msgAccess addr n
  | .write .reg addr n _ => regAccess true addr n
  | .write .msg addr n _ => s.msgAccess addr n

/-- The transaction answers `OK` (R56, R57, R58). -/
def State.allows (s : State) (t : Transaction) : Bool := (!s.busy || t.isStatusRead) && s.spaceAllows t

/-- Sets the answer the host gets. -/
def State.withAnswer (s : State) (a : Answer) : State := { s with answer := some a }

/-- An allowed transaction (R56, R57), a write of `CMD` taken as far as the latching of its word. -/
def State.perform (s : State) : Transaction → State
  | .read .reg addr _ => s.withAnswer (.value (((regAt addr).map s.readReg).getD 0))
  | .read .msg addr n => s.withAnswer (.value (le64 (s.memRead .msg addr n)))
  | .write .reg addr _ v => (((regAt addr).map fun r => s.writeReg r v).getD s).withAnswer .ok
  | .write .msg addr n v => { s with msg := Memory.storeBytes s.msg addr ((bytes8 v).take n) }.withAnswer .ok

/-- A transaction and its answer; `ERROR` changes nothing else (R15). -/
def State.respond (s : State) (t : Transaction) : State :=
  if s.allows t then s.perform t else s.withAnswer .error

/-- The word a transaction writes to `CMD`, if that is what it does. -/
def Transaction.cmdWord : Transaction → Option Word
  | .write .reg addr n v => if addr = 0x000 ∧ n = 8 then some v else none
  | .write .msg _ _ _ => none
  | .read _ _ _ => none

/-- A command up to its start or refusal, the engine's run left to later steps. -/
def startCommand (i : Instr) (s : State) : State :=
  match i with
  | .permute nr => beginPermute nr s
  | .hash mdlen => beginHash mdlen s
  | .hashi mdlen k => beginHashi mdlen k s
  | .sum224 => beginSum224 s
  | .sum256 => beginSum256 s
  | .sum384 => beginSum384 s
  | .sum512 => beginSum512 s

/-- Steps 2 to 4 of issuing a command (R71), on a state that has latched the word: decode, check, run. An illegal word
raises `InvalidCommand` (R181). -/
def issue (w : Word) (wait : Bool) (s : State) : Host.Outcome State Fault Refusal :=
  match decode w with
  | .error _ => .next (s.recordError .invalidCommand)
  | .ok i => if wait then exec i s else .next (startCommand i s)

/-- The host's turn: the transaction, and the command it issues if it is an allowed write of `CMD`. With `wait` the
running command finishes before the host's next turn. -/
def hostTurn (t : Transaction) (wait : Bool) (s : State) : Host.Outcome State Fault Refusal :=
  match s.allows t, t.cmdWord with
  | true, some w => issue w wait (s.respond t)
  | _, _ => .next (if wait then (s.respond t).finish else s.respond t)

/-- What one event does. -/
def takeEvent (e : Event) (s : State) : Host.Outcome State Fault Refusal :=
  match e with
  | .host t wait => hostTurn t wait s
  | .engine => .next s.advance
  | .reset => .next s.resetInput

/-- One step: the next event of the environment; when there is none, the engine moves, and an idle block stays as it
is (R193, R202; assumption log 4). -/
def stepOnce (s : State) : Host.Outcome State Fault Refusal :=
  match s.events with
  | [] => .next s.advance
  | e :: rest => takeEvent e { s with events := rest }

/-- The event that issues the command word `w`, the host waiting for its completion. -/
def issueEvent (w : Word) : Event := .host (.write .reg 0x000 8 w) true

/-- The state with the issue of the command word `w` as the next event. A command is issued only while the block is idle
(R71), so `BUSY` and `PHASE` are made so. -/
def State.withCommand (s : State) (w : Word) : State :=
  { s with busy := false, phase := .idle, events := issueEvent w :: s.events }

end Sys2Proof.Machine
end

