-- ==== Sys2Proof/Machine/Step.lean ====
section
/-! DEFINITION. The step of the machine, and how the host places an instruction for the very next step. -/

namespace Sys2Proof.Machine

/-- One step of the block and its environment. -/
def step (s : State) : Host.Outcome State Fault Refusal := stepOnce s

/-- The state whose next step issues the command word the opcode table numbers by `w` (assumption log 5). -/
def State.withFetchWord (s : State) (nbits w : Nat) : State := s.withCommand (tableWord nbits w)

end Sys2Proof.Machine
end

