-- ==== Sys2Proof/Machine/HostProgram.lean ====
section
/-! DEFINITION. The abbreviations in which the spec writes a host's program (30_encoding.md rules R85 and R86), as the
transactions they stand for. None of them is a command of the block. -/

namespace Sys2Proof.Machine

/-- The offset of a register in `REG` (R30). -/
def Reg.offset : Reg → Nat
  | .cmd => 0x000
  | .status => 0x008
  | .inAddr => 0x010
  | .inLen => 0x018
  | .digest j => 0x040 + 8 * j.val
  | .lane i => 0x100 + 8 * i.val

/-- `wr REGNAME, value` (R85). -/
def wr (r : Reg) (v : Word) : Transaction := .write .reg r.offset 8 v

/-- `rd REGNAME` (R85). -/
def rd (r : Reg) : Transaction := .read .reg r.offset 8

/-- `wm addr, n, value` (R85). -/
def wm (addr n : Nat) (v : Word) : Transaction := .write .msg addr n v

/-- `rm addr, n` (R85). -/
def rm (addr n : Nat) : Transaction := .read .msg addr n

/-- A command by its mnemonic: the write of its word to `CMD` (R85). -/
def command (i : Instr) : Transaction := wr .cmd (encode i)

/-- `wmsg addr, ...`: one byte per transaction, lowest address first (R86). -/
def wmsg : Nat → List Byte → List Transaction
  | _, [] => []
  | addr, b :: bs => wm addr 1 (b.setWidth 64) :: wmsg (addr + 1) bs

/-- `fill addr, count, byte` (R86). -/
def fill (addr count : Nat) (b : Byte) : List Transaction := wmsg addr (List.replicate count b)

/-- `input addr, len` (R86). -/
def input (addr len : Word) : List Transaction := [wr .inAddr addr, wr .inLen len]

/-- `turns` turns of the loop `wait` (R86), the engine making one step before each read of `STATUS`; the loop ends at
the first read with `BUSY = 0`. -/
def waitLoop (turns : Nat) : List Event := (List.replicate turns [Event.engine, .host (rd .status) false]).flatten

/-- A list of transactions as events, the host not waiting for the engine between them. -/
def asEvents (ts : List Transaction) : List Event := ts.map fun t => .host t false

end Sys2Proof.Machine
end

