-- ==== Sys2Proof/Safety.lean ====
section
/-! DEFINITION. The terms claims are stated in: the invariant of the machine, what two states show the host alike, and
what a completed hash command leaves. -/

namespace Sys2Proof.Machine

/-- The message memory: canonical form, every written address inside `MSG`, and `MSG_SIZE >= 1` (R7, R31). -/
structure MemoryOk (s : State) : Prop where
  sorted : Memory.wf s.msg = true
  inside : ∀ c ∈ s.msg, c.1 < s.msgSize
  size : 1 ≤ s.msgSize

/-- The invariants of R27: `BUSY = 1` implies `DONE = 0` and `ERR = 0`; `ERR = 1` implies `DONE = 1` and `ECODE != 0`;
`ECODE` is 0 when `ERR = 0`; codes 6 to 255 are never produced (R180); `DLEN` is 0, 28, 32, 48 or 64. -/
structure StatusOk (s : State) : Prop where
  busyFlags : s.busy = true → s.done = false ∧ s.err = false
  errFlags : s.err = true → s.done = true ∧ s.ecode ≠ 0
  noError : s.err = false → s.ecode = 0
  codes : s.ecode.toNat ≤ 5
  lengths : s.dlen = 0 ∨ legalMdlen s.dlen.toNat = true

/-- The phases of a hash command (R138, R162). -/
def Phase.isHash : Phase → Bool
  | .idle => false
  | .perm => false
  | .init => true
  | .absorb => true
  | .pad => true
  | .final => true
  | .squeeze => true
  | .next => true

/-- The phases in which less than one block of input is left (R134, R138). -/
def Phase.isTail : Phase → Bool
  | .idle => false
  | .perm => false
  | .init => false
  | .absorb => false
  | .pad => true
  | .final => true
  | .squeeze => true
  | .next => true

/-- The sequencer registers of a running hash command (R33): a legal digest length, `PASS` between 1 and `KREQ`, 24
rounds, the window inside `MSG`, `DLEN = 0` (R195), `DIG` zero from `MDL` up; from `INIT` on the rate of `MDL`, and an
input that is the rest of the window in the first pass (R61) and the digest in a later one (R162). -/
structure HashOk (s : State) : Prop where
  mdl : legalMdlen s.mdl = true
  passes : 1 ≤ s.pass ∧ s.pass ≤ s.kreq ∧ s.kreq < 2 ^ 32
  rounds : s.nrl = 24
  window : s.windowFits = true
  dlen : s.dlen = 0
  digTail : ∀ b, s.mdl ≤ b → s.digByte b = 0
  first : s.phase = .init → s.pass = 1
  rates : s.phase ≠ .init → s.rsiz = rate s.mdl ∧ s.rsizw = rate s.mdl / 8
  fromMsg : s.phase ≠ .init → s.src = .msg → s.pass = 1 ∧ s.ptr + s.rem = s.inAddr.toNat + s.inLen.toNat
  fromDig : s.phase ≠ .init → s.src = .dig → 2 ≤ s.pass ∧ s.ptr = 0 ∧ s.rem = s.mdl
  tail : s.phase.isTail = true → s.rem < s.rsiz

/-- The sequencer: idle exactly when `BUSY = 0`; `RND <= NRL <= 24` in a `PERMUTE` (R33, R111). -/
structure SequencerOk (s : State) : Prop where
  idle : s.busy = false ↔ s.phase = .idle
  perm : s.phase = .perm → s.rnd ≤ s.nrl ∧ s.nrl ≤ 24
  hash : s.phase.isHash = true → HashOk s

/-- The invariant of the machine. The last clause is R29: outside a running hash command the bytes of `DIG` from
`DLEN` up are zero. -/
structure Inv (s : State) : Prop where
  memory : MemoryOk s
  status : StatusOk s
  sequencer : SequencerOk s
  digest : s.phase.isHash = false → ∀ b, s.dlen.toNat ≤ b → s.digByte b = 0

/-- Two states in which every host-visible register and memory byte (R38) is the same, with the same build parameter,
the same unknown contents of unwritten bytes, the same transactions to come and the same last answer. -/
structure SameVisible (s t : State) : Prop where
  lanes : s.lanes = t.lanes
  cmd : s.cmd = t.cmd
  busy : s.busy = t.busy
  done : s.done = t.done
  err : s.err = t.err
  ecode : s.ecode = t.ecode
  dlen : s.dlen = t.dlen
  inAddr : s.inAddr = t.inAddr
  inLen : s.inLen = t.inLen
  dig : s.dig = t.dig
  msg : s.msg = t.msg
  msgSize : s.msgSize = t.msgSize
  resets : s.resets = t.resets
  events : s.events = t.events
  answer : s.answer = t.answer

/-- What no command writes (R31, R60, R160; 92_eei_decisions.md D32): `MSG`, `CMD`, `IN_ADDR`, `IN_LEN`, and the
model's own fields. -/
structure OperandsKept (s t : State) : Prop where
  msg : t.msg = s.msg
  cmd : t.cmd = s.cmd
  inAddr : t.inAddr = s.inAddr
  inLen : t.inLen = s.inLen
  msgSize : t.msgSize = s.msgSize
  resets : t.resets = s.resets
  events : t.events = s.events
  answer : t.answer = s.answer

/-- What a completed command shows (R190): `BUSY` clear, `DONE` set, `PHASE = IDLE`; the error flags as they were
latched (R71 step 1 has cleared them). -/
structure Completed (s t : State) : Prop where
  busy : t.busy = false
  done : t.done = true
  phase : t.phase = .idle
  err : t.err = s.err
  ecode : t.ecode = s.ecode

/-- What a completed hash command of digest length `mdlen` and `k` passes leaves (R160): the final state in `S`, the
digest in `DIG[0 .. mdlen)` and zeros above, `DLEN = mdlen`. -/
structure HashDone (s : State) (mdlen k : Nat) (t : State) : Prop where
  lanes : t.lanes = (hashIter s.message mdlen k).2
  dig : t.dig.toList = (hashIter s.message mdlen k).1 ++ List.replicate (64 - mdlen) 0
  dlen : t.dlen.toNat = mdlen
  completed : Completed s t
  kept : OperandsKept s t

/-- The command error a decoded command is refused with in a state, if any (R182 to R186). -/
def refusalOf (i : Instr) (s : State) : Option CmdError :=
  match i with
  | .permute nr => permuteCheck nr
  | .hash mdlen => s.hashCheck mdlen 1
  | .hashi mdlen k => s.hashCheck mdlen k
  | .sum224 => s.hashCheck 28 1
  | .sum256 => s.hashCheck 32 1
  | .sum384 => s.hashCheck 48 1
  | .sum512 => s.hashCheck 64 1

/-- The digest length and the pass count of a hash command (R80); `PERMUTE` has neither. -/
def hashOperands (i : Instr) : Option (Nat × Nat) :=
  match i with
  | .permute _ => none
  | .hash mdlen => some (mdlen, 1)
  | .hashi mdlen k => some (mdlen, k)
  | .sum224 => some (28, 1)
  | .sum256 => some (32, 1)
  | .sum384 => some (48, 1)
  | .sum512 => some (64, 1)

/-- The state in which the host's next transaction writes the word `w` to `CMD`. -/
def State.withIssue (s : State) (w : Word) (wait : Bool) (rest : List Event) : State :=
  { s with events := .host (.write .reg 0x000 8 w) wait :: rest }

/-- The state in which the host's next transaction is `t`. -/
def State.withHost (s : State) (t : Transaction) (wait : Bool) (rest : List Event) : State :=
  { s with events := .host t wait :: rest }

end Sys2Proof.Machine
end

