-- ==== Sys2Proof/Certificates/Slice0/Obligations.lean ====
section
/-! DEFINITION. The statements for the provers, each with the rules of spec/ it rests on. -/

open Sys2Proof Sys2Proof.Machine

/-- The masks and matches of the seven rows of R72, in the table's order. -/
def Sys2Proof.opcodeRows : List (Word × Word) :=
  [(0xFFFFFFFFFF00FFFF, 0x0000000000000001), (0xFFFFFFFFFFFF00FF, 0x0000000000000002),
   (0x00000000FFFF00FF, 0x0000000000000003), (0xFFFFFFFFFFFFFFFF, 0x0000000000000004),
   (0xFFFFFFFFFFFFFFFF, 0x0000000000000005), (0xFFFFFFFFFFFFFFFF, 0x0000000000000006),
   (0xFFFFFFFFFFFFFFFF, 0x0000000000000007)]

/-- One step of the 8-bit register that R101 gives as a check of its table. -/
def Sys2Proof.shiftRegister (r : Nat) : Nat := if 2 * r < 2 ^ 8 then 2 * r else (2 * r) ^^^ 0x171

/-- The table of R107: destination lane, source lane, amount. -/
def Sys2Proof.rhoPiMoves : List (Nat × Nat × Nat) :=
  [(1, 6, 44), (2, 12, 43), (3, 18, 21), (4, 24, 14), (5, 3, 28), (6, 9, 20), (7, 10, 3), (8, 16, 45),
   (9, 22, 61), (10, 1, 1), (11, 7, 6), (12, 13, 25), (13, 19, 8), (14, 20, 18), (15, 4, 27), (16, 5, 36),
   (17, 11, 10), (18, 17, 15), (19, 23, 56), (20, 2, 62), (21, 8, 55), (22, 14, 39), (23, 15, 41), (24, 21, 2)]

/-- Decoding the word of any well-formed command gives that command back. Derived from 30_encoding.md sections 1 to 3, 30_encoding.md section 5. -/
def Obligations.DecodeOfEncodedCommand : Prop :=
    ∀ i : Instr, i.wellFormed = true → decode (encode i) = .ok i

/-- Every accepted word is the word of the one command it decodes to. Derived from 30_encoding.md sections 1, 3, 4 and 5. -/
def Obligations.EncodeOfDecodedWord : Prop :=
    ∀ (w : Word) (i : Instr), decode w = .ok i → i.wellFormed = true ∧ encode i = w

/-- The opcode map: a word is a command exactly when it matches that command's row. Formalises R72. -/
def Obligations.OpcodeMapByMaskAndMatch : Prop :=
    (∀ w : Word,
    (w &&& 0xFFFFFFFFFF00FFFF = 0x0000000000000001 ↔ decode w = .ok (.permute (nrField w))) ∧
    (w &&& 0xFFFFFFFFFFFF00FF = 0x0000000000000002 ↔ decode w = .ok (.hash (mdlenField w))) ∧
    (w &&& 0x00000000FFFF00FF = 0x0000000000000003 ↔ decode w = .ok (.hashi (mdlenField w) (iterField w))) ∧
    (w &&& 0xFFFFFFFFFFFFFFFF = 0x0000000000000004 ↔ decode w = .ok .sum224) ∧
    (w &&& 0xFFFFFFFFFFFFFFFF = 0x0000000000000005 ↔ decode w = .ok .sum256) ∧
    (w &&& 0xFFFFFFFFFFFFFFFF = 0x0000000000000006 ↔ decode w = .ok .sum384) ∧
    (w &&& 0xFFFFFFFFFFFFFFFF = 0x0000000000000007 ↔ decode w = .ok .sum512)) ∧
  (∀ w : Word, (∃ e, decode w = .error e) ↔
    ∀ r ∈ opcodeRows, w &&& r.1 ≠ r.2) ∧
  opcodeRows.Pairwise fun r q => ∀ w : Word, ¬ (w &&& r.1 = r.2 ∧ w &&& q.1 = q.2)

/-- A word is illegal exactly in the cases of R81, and issuing it records InvalidCommand. Formalises R81, R181. -/
def Obligations.IllegalWordsRaiseInvalidCommand : Prop :=
    (∀ w : Word, (∃ e, decode w = .error e) ↔
      (opField w = 0x00 ∨ 0x08 ≤ opField w) ∨
      (opField w = 0x01 ∧ (mdlenField w ≠ 0 ∨ rsvField w ≠ 0 ∨ iterField w ≠ 0)) ∨
      (opField w = 0x02 ∧ (nrField w ≠ 0 ∨ rsvField w ≠ 0 ∨ iterField w ≠ 0)) ∨
      (opField w = 0x03 ∧ (nrField w ≠ 0 ∨ rsvField w ≠ 0)) ∨
      (0x04 ≤ opField w ∧ opField w ≤ 0x07 ∧
        (mdlenField w ≠ 0 ∨ nrField w ≠ 0 ∨ rsvField w ≠ 0 ∨ iterField w ≠ 0))) ∧
    (∀ (w : Word) (e : Illegal) (wait : Bool) (s : State), decode w = .error e →
      issue w wait s = .next (s.recordError .invalidCommand) ∧ (s.recordError .invalidCommand).ecode = 5) ∧
    ∃ e, decode 0 = .error e

/-- The words of PERMUTE, HASH and HASHI hold their operands in the fields of the format and zeros elsewhere. Formalises R73, R74, R75. -/
def Obligations.FieldsOfOperandCommands : Prop :=
    (∀ nr < 2 ^ 8, opField (encode (.permute nr)) = 0x01 ∧ nrField (encode (.permute nr)) = nr ∧
      mdlenField (encode (.permute nr)) = 0 ∧ rsvField (encode (.permute nr)) = 0 ∧
      iterField (encode (.permute nr)) = 0) ∧
    (∀ m < 2 ^ 8, opField (encode (.hash m)) = 0x02 ∧ mdlenField (encode (.hash m)) = m ∧
      nrField (encode (.hash m)) = 0 ∧ rsvField (encode (.hash m)) = 0 ∧ iterField (encode (.hash m)) = 0) ∧
    (∀ m < 2 ^ 8, ∀ k < 2 ^ 32, opField (encode (.hashi m k)) = 0x03 ∧ mdlenField (encode (.hashi m k)) = m ∧
      nrField (encode (.hashi m k)) = 0 ∧ rsvField (encode (.hashi m k)) = 0 ∧ iterField (encode (.hashi m k)) = k) ∧
    encode (.permute 24) = 0x0000000000180001 ∧ encode (.permute 0) = 0x0000000000000001 ∧
    encode (.hash 28) = 0x0000000000001C02 ∧ encode (.hash 32) = 0x0000000000002002 ∧
    encode (.hash 48) = 0x0000000000003002 ∧ encode (.hash 64) = 0x0000000000004002 ∧
    encode (.hashi 32 3) = 0x0000000300002003 ∧ encode (.hashi 64 1) = 0x0000000100004003

/-- Each SUM command is one single word, and no other word decodes to it. Formalises R76, R77, R78, R79. -/
def Obligations.SumCommandsAreSingleWords : Prop :=
    (∀ w : Word, (decode w = .ok .sum224 ↔ w = 0x0000000000000004) ∧
      (decode w = .ok .sum256 ↔ w = 0x0000000000000005) ∧
      (decode w = .ok .sum384 ↔ w = 0x0000000000000006) ∧
      (decode w = .ok .sum512 ↔ w = 0x0000000000000007)) ∧
    encode .sum224 = 0x0000000000000004 ∧ encode .sum256 = 0x0000000000000005 ∧
    encode .sum384 = 0x0000000000000006 ∧ encode .sum512 = 0x0000000000000007

/-- Words of the spec's decoding table decode as it says. Derived from 95_test_vectors.md section 2.12. -/
def Obligations.SpecWordsDecodeAsListed : Prop :=
    decode 0x0000000000180001 = .ok (.permute 24) ∧ decode 0x0000000000190001 = .ok (.permute 25) ∧
    decode 0x0000000000001C02 = .ok (.hash 28) ∧ decode 0x000000000000FF02 = .ok (.hash 255) ∧
    decode 0x0000000300002003 = .ok (.hashi 32 3) ∧ decode 0x0000000000001403 = .ok (.hashi 20 0) ∧
    decode 0xFFFFFFFF00002003 = .ok (.hashi 32 0xFFFFFFFF) ∧
    decode 0x0000000000000004 = .ok .sum224 ∧ decode 0x0000000000000005 = .ok .sum256 ∧
    decode 0x0000000000000006 = .ok .sum384 ∧ decode 0x0000000000000007 = .ok .sum512 ∧
    decode 0x0000000001180001 = .error .unusedField ∧ decode 0x0000000100002002 = .error .unusedField ∧
    decode 0x0000000000002005 = .error .unusedField ∧ decode 0x0000000000000000 = .error .reservedOpcode ∧
    decode 0x0000000000000008 = .error .reservedOpcode ∧ decode 0xFFFFFFFFFFFFFFFF = .error .reservedOpcode

/-- ROTL64 moves bit i to bit (i + r) mod 64, for every amount 1 to 63. Formalises R12. -/
def Obligations.RotationMovesEachBit : Prop :=
    (∀ (v : Word) (r i : Nat), 1 ≤ r → r ≤ 63 → i < 64 →
      rotl64 v r = (v <<< r ||| v >>> (64 - r)) ∧ (rotl64 v r).getLsbD ((i + r) % 64) = v.getLsbD i) ∧
    (∀ r ∈ rotationOffsets, 1 ≤ r ∧ r ≤ 63) ∧
    rotl64 0x8000000000000000 1 = 0x0000000000000001

/-- The three tables meet the generating formulas of the spec. Derived from 40_permutation.md section 2, 95_test_vectors.md section 3. -/
def Obligations.ConstantTablesMeetTheirFormulas : Prop :=
    (∀ t < 24, rotationOffsets.getD t 0 = (t + 1) * (t + 2) / 2 % 64) ∧
    (∀ t < 24, (laneWalk.map Fin.val).getD t 0 =
      (fun p => p.1 + 5 * p.2) ((fun p : Nat × Nat => (p.2, (2 * p.1 + 3 * p.2) % 5))^[t + 1] (1, 0))) ∧
    (laneWalk.Nodup ∧ ∀ i : Fin 25, i ∈ laneWalk ↔ i ≠ 0) ∧
    roundConstants.length = 24 ∧
    (∀ i < 24, ∀ j < 7, (roundConstants.getD i 0).getLsbD (2 ^ j - 1) = (shiftRegister^[j + 7 * i] 1).testBit 0) ∧
    ∀ c ∈ roundConstants, c &&& ~~~ 0x800000008000808B = 0

/-- Theta XORs into each lane the parity of the column before and the rotated parity of the column after. Derived from 40_permutation.md section 4, 90_conflicts.md C1. -/
def Obligations.ThetaAddsTwoColumnParities : Prop :=
    (∀ (A : Lanes) (x y : Nat), x < 5 → y < 5 →
      let C := fun x => lane A x ^^^ lane A (x + 5) ^^^ lane A (x + 10) ^^^ lane A (x + 15) ^^^ lane A (x + 20)
      lane (theta A) (x + 5 * y) = lane A (x + 5 * y) ^^^ (C ((x + 4) % 5) ^^^ rotl64 (C ((x + 1) % 5)) 1)) ∧
    theta zeroLanes = zeroLanes ∧
    (∀ v : Word, theta (Vector.replicate 25 v) = Vector.replicate 25 (rotl64 v 1)) ∧
    (∀ i < 25, lane (theta (zeroLanes.set 0 1)) i =
      if i ∈ [0, 1, 6, 11, 16, 21] then 1 else if i ∈ [4, 9, 14, 19, 24] then 2 else 0)

/-- The sequential Rho+Pi walk equals the closed form of the table of destinations, sources and amounts. Formalises R107. -/
def Obligations.RhoPiEqualsItsClosedForm : Prop :=
    (∀ A : Lanes, lane (rhoPi A) 0 = lane A 0 ∧
      (∀ t < 24, lane (rhoPi A) (laneWalk.getD t 0).val =
        rotl64 (lane A (if t = 0 then 1 else (laneWalk.getD (t - 1) 0).val)) (rotationOffsets.getD t 0)) ∧
      ∀ m ∈ rhoPiMoves, lane (rhoPi A) m.1 = rotl64 (lane A m.2.1) m.2.2) ∧
    (∀ i, 1 ≤ i → i ≤ 24 → (rhoPiMoves.filter (·.1 == i)).length = 1 ∧ (rhoPiMoves.filter (·.2.1 == i)).length = 1) ∧
    ∀ m ∈ rhoPiMoves, m.1 = m.2.1 / 5 + 5 * ((2 * (m.2.1 % 5) + 3 * (m.2.1 / 5)) % 5)

/-- Chi combines each lane with the next two of its row, all from the values before the step. Derived from 40_permutation.md section 4. -/
def Obligations.ChiWorksRowByRow : Prop :=
    (∀ (A : Lanes) (x y : Nat), x < 5 → y < 5 →
      lane (chi A) (5 * y + x) =
        lane A (5 * y + x) ^^^ (~~~ lane A (5 * y + (x + 1) % 5) &&& lane A (5 * y + (x + 2) % 5))) ∧
    (∀ (A : Lanes) (y : Nat) (v : Word), y < 5 → v = 0 ∨ v = BitVec.allOnes 64 →
      (∀ x < 5, lane A (5 * y + x) = v) → ∀ x < 5, lane (chi A) (5 * y + x) = v) ∧
    (∀ (A B : Lanes) (y : Nat), y < 5 → (∀ x < 5, lane A (5 * y + x) = lane B (5 * y + x)) →
      ∀ x < 5, lane (chi A) (5 * y + x) = lane (chi B) (5 * y + x)) ∧
    ((List.range 5).map fun x => lane (chi (tabulate 25 fun i => BitVec.ofNat 64 (i - 4))) (5 + x)) = [0, 6, 2, 4, 7]

/-- Iota XORs the round constant of the round into lane 0 and changes no other lane. Formalises R109. -/
def Obligations.IotaChangesOnlyLaneZero : Prop :=
    (∀ (A : Lanes) (r : Nat) (h : r < 24), lane (iota A r) 0 = lane A 0 ^^^ roundConstants[r]'(by simpa [roundConstants, roundConstantRows] using h) ∧
      ∀ i, 1 ≤ i → i ≤ 24 → lane (iota A r) i = lane A i) ∧
    lane (iota zeroLanes 0) 0 = 1 ∧ lane (iota (zeroLanes.set 0 0x8082) 1) 0 = 0

/-- KeccakP of nr is the rounds 0 to nr - 1 in that order, so counts compose. Derived from 40_permutation.md section 5. -/
def Obligations.KeccakPRunsTheFirstRounds : Prop :=
    (∀ (A : Lanes) (nr : Nat), keccakP A nr = (List.range nr).foldl keccakRound A) ∧
    ∀ (A : Lanes) (m n : Nat), keccakP A (m + n) = (List.range' m n).foldl keccakRound (keccakP A m)

/-- KeccakF of the zero state begins and ends with the spec's lanes. Derived from 95_test_vectors.md section 2.6. -/
def Obligations.ZeroStateKnownAnswer : Prop :=
    lane (keccakP zeroLanes 2) 0 = 0x0000000000008083 ∧ lane (keccakP zeroLanes 2) 1 = 0x0000100000000000 ∧
    lane (keccakP zeroLanes 2) 20 = 0x0000010000000000 ∧
    lane (keccakF zeroLanes) 0 = 0xF1258F7940E1DDE7 ∧ lane (keccakF zeroLanes) 24 = 0xEAF1FF7B5CECA249

/-- The rates of the four digest lengths, whole lanes each, larger than the digest and at most 144. Derived from 41_sponge.md section 1, 00_scope.md section 4. -/
def Obligations.RateOfEachDigestLength : Prop :=
    rate 28 = 144 ∧ rate 32 = 136 ∧ rate 48 = 104 ∧ rate 64 = 72 ∧
    ∀ m, legalMdlen m = true → rate m % 8 = 0 ∧ m < rate m ∧ rate m + 2 * m = 200 ∧ rate m ≤ 144

/-- The padded block has the rate's length, the tail, one 0x06, zeros, and 0x80 in its last byte. Derived from 41_sponge.md section 3. -/
def Obligations.PaddedBlockBytes : Prop :=
    ∀ (tail : List Byte) (rsiz : Nat), tail.length < rsiz →
    let B := padBlock tail rsiz
    B.length = rsiz ∧ B.take tail.length = tail ∧
    (tail.length + 1 = rsiz → B.getD (rsiz - 1) 0 = 0x86) ∧
    (tail.length + 1 < rsiz → B.getD tail.length 0 = 0x06 ∧ B.getD (rsiz - 1) 0 = 0x80 ∧
      ∀ j, tail.length < j → j + 1 < rsiz → B.getD j 0 = 0x00)

/-- The pad step's register transfers leave the padded block in BLK and nothing else changed. Derived from 41_sponge.md section 3. -/
def Obligations.PadStepBuildsThePaddedBlock : Prop :=
    ∀ s : State, s.rem < s.rsiz → s.rsiz ≤ 144 →
    s.padStep.blk.toList.take s.rsiz = padBlock (s.memRead s.src s.ptr s.rem) s.rsiz ∧
    (∀ j, s.rsiz ≤ j → s.padStep.blkByte j = s.blkByte j) ∧
    { s.padStep with blk := s.blk } = s

/-- The squeeze step writes the first MDL bytes of the state's byte image to DIG and zeros above. Derived from 41_sponge.md section 4. -/
def Obligations.SqueezeStepWritesTheDigest : Prop :=
    ∀ s : State, s.mdl ≤ 64 →
    s.squeezeStep.dig.toList = squeeze s.lanes s.mdl ++ List.replicate (64 - s.mdl) 0x00 ∧
    { s.squeezeStep with dig := s.dig } = s

/-- The engine's steps of one pass compute exactly Sponge(M, mdlen). Derived from 41_sponge.md sections 5 and 6. The number of engine steps is the model's choice (assumption log 7). -/
def Obligations.EnginePassComputesTheSponge : Prop :=
    ∀ s : State, s.busy = true → s.phase = .absorb → s.lanes = zeroLanes → legalMdlen s.mdl = true →
    s.rsiz = rate s.mdl → s.rsizw = rate s.mdl / 8 → s.nrl = 24 →
    let t := State.run (s.rem / s.rsiz + 4) s
    let r := sponge (s.memRead s.src s.ptr s.rem) s.mdl
    t.busy = true ∧ t.phase = .next ∧ t.lanes = r.2 ∧ t.dig.toList = r.1 ++ List.replicate (64 - s.mdl) 0x00 ∧
    t.pass = s.pass ∧ t.kreq = s.kreq ∧ t.mdl = s.mdl ∧ OperandsKept s t

/-- PERMUTE with at most 24 rounds completes with S permuted by that many rounds. Derived from 40_permutation.md section 5, 60_exceptions.md section 3. -/
def Obligations.PermuteResult : Prop :=
    ∀ (nr : Nat) (s : State), nr ≤ 24 →
    ∃ t, exec (.permute nr) s = .next t ∧ t.lanes = keccakP s.lanes nr ∧ Completed s t ∧ OperandsKept s t ∧
      t.dig = s.dig ∧ t.dlen = s.dlen

/-- PERMUTE is refused with InvalidRounds exactly when its round count is above 24. Formalises R184. -/
def Obligations.PermuteRefusedAboveTwentyFour : Prop :=
    ∀ (nr : Nat) (s : State), s.busy = false → s.err = false →
    (24 < nr → exec (.permute nr) s = .next (s.recordError .invalidRounds) ∧
      (s.recordError .invalidRounds).ecode = 4) ∧
    (nr ≤ 24 → ∃ t, exec (.permute nr) s = .next t ∧ t.done = true ∧ t.err = false)

/-- PERMUTE leaves everything but S, its own sequencer registers and the status flags unchanged. Derived from 40_permutation.md section 5, 10_state.md sections 4 to 6, 92_eei_decisions.md D32. Which hidden registers a start writes is the model's inference (assumption log 10). -/
def Obligations.PermuteFrame : Prop :=
    ∀ (nr : Nat) (s t : State), s.busy = false → exec (.permute nr) s = .next t →
    OperandsKept s t ∧ (∀ a, t.msgByte a = s.msgByte a) ∧ t.dig = s.dig ∧ t.dlen = s.dlen ∧ t.blk = s.blk ∧
    t.mdl = s.mdl ∧ t.rsiz = s.rsiz ∧ t.rsizw = s.rsizw ∧ t.src = s.src ∧ t.ptr = s.ptr ∧ t.rem = s.rem ∧
    t.kreq = s.kreq ∧ t.pass = s.pass ∧ t.busy = false ∧ t.done = true ∧
    (24 < nr → t.lanes = s.lanes ∧ t.bc = s.bc ∧ t.tmp = s.tmp ∧ t.rnd = s.rnd ∧ t.nrl = s.nrl ∧ t.opl = s.opl ∧
      t.phase = s.phase)

/-- HASH with a legal digest length and a window inside MSG completes with the digest of the window. Derived from 42_digest.md sections 1 and 2. -/
def Obligations.HashResult : Prop :=
    ∀ (m : Nat) (s : State), legalMdlen m = true → s.windowFits = true →
    ∃ t, exec (.hash m) s = .next t ∧ HashDone s m 1 t ∧ t.lanes = (sponge s.message m).2

/-- HASHI completes with k passes, each over the digest of the one before. Derived from 42_digest.md sections 1 and 2. -/
def Obligations.HashiResult : Prop :=
    ∀ (m k : Nat) (s : State), legalMdlen m = true → 1 ≤ k → s.windowFits = true →
    ∃ t, exec (.hashi m k) s = .next t ∧ HashDone s m k t

/-- SUM224, SUM256, SUM384 and SUM512 complete with the digest of their fixed length. Derived from 42_digest.md sections 1 and 2. -/
def Obligations.SumResults : Prop :=
    ∀ s : State, s.windowFits = true →
    (∃ t, exec .sum224 s = .next t ∧ HashDone s 28 1 t) ∧ (∃ t, exec .sum256 s = .next t ∧ HashDone s 32 1 t) ∧
    (∃ t, exec .sum384 s = .next t ∧ HashDone s 48 1 t) ∧ (∃ t, exec .sum512 s = .next t ∧ HashDone s 64 1 t)

/-- HASH and HASHI raise InvalidDigestLength exactly for a digest length outside the four; the SUM commands never do. Formalises R182. -/
def Obligations.InvalidDigestLengthRaised : Prop :=
    ∀ s : State, s.busy = false → s.err = false →
    (∀ m k, ¬ (m = 28 ∨ m = 32 ∨ m = 48 ∨ m = 64) →
      exec (.hash m) s = .next (s.recordError .invalidDigestLength) ∧
      exec (.hashi m k) s = .next (s.recordError .invalidDigestLength) ∧
      (s.recordError .invalidDigestLength).ecode = 1) ∧
    (∀ m k t, m = 28 ∨ m = 32 ∨ m = 48 ∨ m = 64 →
      exec (.hash m) s = .next t ∨ exec (.hashi m k) s = .next t → ¬ (t.err = true ∧ t.ecode = 1)) ∧
    (∀ t, exec .sum224 s = .next t ∨ exec .sum256 s = .next t ∨ exec .sum384 s = .next t ∨ exec .sum512 s = .next t →
      ¬ (t.err = true ∧ t.ecode = 1))

/-- HASHI raises InvalidIterations when its iteration count is zero and its digest length legal. Formalises R185. -/
def Obligations.InvalidIterationsRaised : Prop :=
    ∀ (m : Nat) (s : State), s.busy = false → legalMdlen m = true →
    exec (.hashi m 0) s = .next (s.recordError .invalidIterations) ∧ (s.recordError .invalidIterations).ecode = 3

/-- Every hash command raises BufferTooSmall exactly when its window runs past MSG_SIZE, the sum not wrapping. Derived from 60_exceptions.md section 1, 95_test_vectors.md section 2.12. -/
def Obligations.BufferTooSmallRaised : Prop :=
    ∀ (i : Instr) (m k : Nat) (s : State), s.busy = false → s.err = false → hashOperands i = some (m, k) →
    legalMdlen m = true → k ≠ 0 →
    (s.msgSize < s.inAddr.toNat + s.inLen.toNat →
      exec i s = .next (s.recordError .bufferTooSmall) ∧ (s.recordError .bufferTooSmall).ecode = 2) ∧
    (s.inAddr.toNat + s.inLen.toNat ≤ s.msgSize →
      ∃ t, exec i s = .next t ∧ t.done = true ∧ t.err = false ∧ t.dlen.toNat = m)

/-- Of several errors of a HASHI the digest length comes first, then the iteration count, then the buffer; a stray NR field comes before all. Derived from 60_exceptions.md section 2. -/
def Obligations.ErrorPriorityOfHashCommands : Prop :=
    (∀ (m k : Nat) (s : State) (e : CmdError), s.busy = false →
      (if legalMdlen m = false then e = .invalidDigestLength
       else if k = 0 then e = .invalidIterations
       else s.msgSize < s.inAddr.toNat + s.inLen.toNat ∧ e = .bufferTooSmall) →
      exec (.hashi m k) s = .next (s.recordError e)) ∧
    ∀ (w : Word) (wait : Bool) (s : State), 2 ≤ opField w → nrField w ≠ 0 →
      issue w wait s = .next (s.recordError .invalidCommand)

/-- Every command whose checks pass completes without error. Derived from 60_exceptions.md sections 3 and 5. -/
def Obligations.AcceptedCommandsComplete : Prop :=
    ∀ (i : Instr) (s : State), refusalOf i s = none → ∃ t, exec i s = .next t ∧ Completed s t

/-- A refused command sets ERR, ECODE and DONE, leaves its word in CMD, and changes nothing else. Formalises R188. -/
def Obligations.RefusedCommandTouchesOnlyStatusAndCmd : Prop :=
    ∀ (s : State) (w : Word) (wait : Bool) (rest : List Event) (e : CmdError), s.busy = false →
    (match decode w with | .error _ => some .invalidCommand | .ok i => refusalOf i s) = some e →
    step (s.withIssue w wait rest) =
      .next { s with cmd := w, err := true, ecode := e.code, done := true, events := rest, answer := some .ok }

/-- No command changes MSG, CMD, IN_ADDR or IN_LEN. Derived from 10_state.md section 5, 42_digest.md section 1, 92_eei_decisions.md D32. -/
def Obligations.CommandsKeepOperandsAndMemory : Prop :=
    ∀ (i : Instr) (s t : State), s.busy = false → exec i s = .next t →
    OperandsKept s t ∧ ∀ a, t.msgByte a = s.msgByte a

/-- After an accepted hash command DIG is the first bytes of the state's byte image, and the DIGEST registers show it. Derived from 42_digest.md section 1, 10_state.md section 4. -/
def Obligations.DigestIsAPrefixOfTheState : Prop :=
    ∀ (i : Instr) (m k : Nat) (s t : State), hashOperands i = some (m, k) → refusalOf i s = none → exec i s = .next t →
    (∀ b < 64, t.digByte b = if b < m then stateByte t.lanes b else 0x00) ∧
    (∀ j : Fin 8, 8 * j.val + 8 ≤ m → t.readReg (.digest j) = lane t.lanes j.val) ∧
    (∀ j : Fin 8, m ≤ 8 * j.val → t.readReg (.digest j) = 0) ∧
    (m = 28 → t.readReg (.digest 3) = BitVec.ofNat 64 ((lane t.lanes 3).toNat % 2 ^ 32))

/-- SUM224, HASH 28 and HASHI 28, 1 leave the same S, DIG and STATUS; likewise for 32, 48 and 64. Derived from 42_digest.md section 3. -/
def Obligations.EquivalentHashCommands : Prop :=
    ∀ (s : State) (i : Instr) (m : Nat), s.busy = false →
    (i, m) ∈ [(Instr.sum224, 28), (Instr.sum256, 32), (Instr.sum384, 48), (Instr.sum512, 64)] →
    ∃ t u v, exec i s = .next t ∧ exec (.hash m) s = .next u ∧ exec (.hashi m 1) s = .next v ∧
      t.lanes = u.lanes ∧ t.dig = u.dig ∧ t.statusWord = u.statusWord ∧
      v.lanes = u.lanes ∧ v.dig = u.dig ∧ v.statusWord = u.statusWord

/-- HASHI with k passes equals HASH, a copy of the digest into MSG, and HASHI with k - 1 passes. Derived from 42_digest.md section 3. -/
def Obligations.IterationByHand : Prop :=
    ∀ (s t : State) (m k b : Nat), legalMdlen m = true → 2 ≤ k → s.windowFits = true → b + m ≤ s.msgSize → b < 2 ^ 64 →
    exec (.hash m) s = .next t →
    let u := { t with msg := Memory.storeBytes t.msg b (t.memRead .dig 0 m), inAddr := BitVec.ofNat 64 b,
                      inLen := BitVec.ofNat 64 m }
    ∃ v w, exec (.hashi m (k - 1)) u = .next v ∧ exec (.hashi m k) s = .next w ∧
      v.lanes = w.lanes ∧ v.dig = w.dig ∧ v.statusWord = w.statusWord

/-- The result of a hash command depends only on the command, IN_ADDR, IN_LEN and the bytes of the window. Derived from 42_digest.md section 3, 10_state.md section 6, 20_memory.md section 4. -/
def Obligations.HashDependsOnlyOnItsWindow : Prop :=
    ∀ (i : Instr) (m k : Nat) (s s' : State), hashOperands i = some (m, k) → refusalOf i s = none → refusalOf i s' = none →
    s.inAddr = s'.inAddr → s.inLen = s'.inLen →
    (∀ a, s.inAddr.toNat ≤ a → a < s.inAddr.toNat + s.inLen.toNat → s.msgByte a = s'.msgByte a) →
    ∃ t t', exec i s = .next t ∧ exec i s' = .next t' ∧ t.lanes = t'.lanes ∧ t.dig = t'.dig ∧ t.dlen = t'.dlen

/-- After reset SUM256 leaves the published SHA3-256 digest of the empty message. Derived from 42_digest.md section 2, 95_test_vectors.md section 2.10. The message size at reset is the model's choice (assumption log 1); the empty window at address 0 fits any size. -/
def Obligations.EmptyMessageKnownAnswer : Prop :=
    ∃ t, exec .sum256 State.reset = .next t ∧
    t.dig.toList.take 32 =
      [0xa7, 0xff, 0xc6, 0xf8, 0xbf, 0x1e, 0xd7, 0x66, 0x51, 0xc1, 0x47, 0x56, 0xa0, 0x61, 0xd6, 0x62,
       0xf5, 0x80, 0xff, 0x4d, 0xe4, 0x3b, 0x49, 0xfa, 0x82, 0xd8, 0x0a, 0x4b, 0x80, 0xf8, 0x43, 0x4a] ∧
    t.dlen = 32

/-- When the host writes a command word to CMD while idle, the step is exec of the decoded command. Derived from 30_encoding.md section 1, 60_exceptions.md section 5. The event list, the waiting flag and the point at which exec begins are the model's choice (assumption logs 4, 5, 6 and 18). -/
def Obligations.StepRunsTheDecodedCommand : Prop :=
    (∀ (s : State) (w : Word) (rest : List Event) (i : Instr), s.busy = false → decode w = .ok i →
      i.wellFormed = true ∧
      step (s.withIssue w true rest) = exec i (({ s with events := rest }.latch w).withAnswer .ok) ∧
      step (s.withIssue w false rest) = .next (startCommand i (({ s with events := rest }.latch w).withAnswer .ok))) ∧
    ∀ (s : State) (nbits w : Nat) (i : Instr), decodeTableWord nbits w = some i →
      step (s.withFetchWord nbits w) =
        exec i (({ s with busy := false, phase := .idle }.latch (tableWord nbits w)).withAnswer .ok)

/-- STATUS holds BUSY, DONE, ERR, ECODE and DLEN at their bits, every other bit zero; it is read-only and readable while busy. Formalises R26. -/
def Obligations.StatusWordLayout : Prop :=
    (∀ s : State, s.statusWord.getLsbD 0 = s.busy ∧ s.statusWord.getLsbD 1 = s.done ∧ s.statusWord.getLsbD 2 = s.err ∧
      (∀ k, 3 ≤ k → k ≤ 7 → s.statusWord.getLsbD k = false) ∧
      (∀ k < 8, s.statusWord.getLsbD (8 + k) = s.ecode.getLsbD k) ∧
      (∀ k < 8, s.statusWord.getLsbD (16 + k) = s.dlen.getLsbD k) ∧
      (∀ k, 24 ≤ k → s.statusWord.getLsbD k = false)) ∧
    (∀ (s : State) (rest : List Event), step (s.withHost (.read .reg 0x008 8) false rest) =
      .next { s with events := rest, answer := some (.value s.statusWord) }) ∧
    (∀ (s : State) (n : Nat) (v : Word), s.allows (.write .reg 0x008 n v) = false) ∧
    ∀ (s : State) (a n : Nat), s.busy = true → a ≠ 0x008 → s.allows (.read .reg a n) = false

/-- After an accepted command STATUS is (DLEN << 16) | 2, with DLEN the digest length for a hash command. Derived from 42_digest.md section 2, 40_permutation.md section 5, 95_test_vectors.md section 2.10. The waiting flag is the model's choice (assumption log 6). -/
def Obligations.StatusAfterAcceptedCommand : Prop :=
    ∀ (s : State) (w : Word) (rest : List Event) (i : Instr), s.busy = false → decode w = .ok i → refusalOf i s = none →
    ∃ t, step (s.withIssue w true rest) = .next t ∧ t.cmd = w ∧ t.answer = some .ok ∧ t.events = rest ∧
      t.statusWord = BitVec.ofNat 64 (2 ^ 16 * ((hashOperands i).map Prod.fst).getD s.dlen.toNat + 2)

/-- DONE, ERR and ECODE last until the next CMD write while idle, which clears all three and on which they have no influence. Derived from 60_exceptions.md section 3, 30_encoding.md section 1. The waiting flag, by which a step leaves an accepted command completed, is the model's choice (assumption log 6). -/
def Obligations.ErrorStateIsLeftByTheNextCommand : Prop :=
    (∀ (s : State) (t : Transaction) (wait : Bool) (rest : List Event), s.busy = false →
      s.allows t = false ∨ t.cmdWord = none →
      ∃ u, step (s.withHost t wait rest) = .next u ∧ u.done = s.done ∧ u.err = s.err ∧ u.ecode = s.ecode) ∧
    (∀ s : State, s.busy = false → s.advance = s) ∧
    (∀ (s : State) (w : Word) (rest : List Event) (i : Instr), s.busy = false → decode w = .ok i →
      refusalOf i s = none →
      (∃ u, step (s.withIssue w false rest) = .next u ∧ u.busy = true ∧ u.done = false ∧ u.err = false ∧ u.ecode = 0) ∧
      ∃ u, step (s.withIssue w true rest) = .next u ∧ u.busy = false ∧ u.done = true ∧ u.err = false ∧ u.ecode = 0) ∧
    (∀ (s : State) (w : Word) (wait : Bool) (rest : List Event) (e : CmdError), s.busy = false →
      (match decode w with | .error _ => some .invalidCommand | .ok i => refusalOf i s) = some e →
      ∃ u, step (s.withIssue w wait rest) = .next u ∧ u.busy = false ∧ u.done = true ∧ u.err = true ∧ u.ecode = e.code) ∧
    ∀ (s : State) (w : Word) (wait : Bool) (rest : List Event) (d e : Bool) (c : Byte), s.busy = false →
      step ({ s with done := d, err := e, ecode := c }.withIssue w wait rest) = step (s.withIssue w wait rest)

/-- A read of CMD returns the last word written while idle, valid or not. Derived from 10_state.md section 4, 92_eei_decisions.md D28. The waiting flag is the model's choice (assumption log 6). -/
def Obligations.CmdReadsBack : Prop :=
    ∀ (s : State) (w : Word) (rest : List Event), s.busy = false →
    ∃ t, step (s.withIssue w true (.host (.read .reg 0x000 8) true :: rest)) = .next t ∧ t.busy = false ∧
      ∃ u, step t = .next u ∧ u.answer = some (.value w) ∧ u.events = rest

/-- A REG transaction answers OK exactly under the conditions of R56, and a write replaces the whole register. Formalises R56. -/
def Obligations.RegisterAccessRules : Prop :=
    (∀ (s : State) (addr n : Nat), s.allows (.read .reg addr n) = true ↔
      (s.busy = false ∨ addr = 0x008) ∧ n = 8 ∧ addr % 8 = 0 ∧
        (addr ≤ 0x018 ∨ (0x040 ≤ addr ∧ addr ≤ 0x078) ∨ (0x100 ≤ addr ∧ addr ≤ 0x1C0))) ∧
    (∀ (s : State) (addr n : Nat) (v : Word), s.allows (.write .reg addr n v) = true ↔
      s.busy = false ∧ n = 8 ∧ addr % 8 = 0 ∧
        (addr = 0x000 ∨ addr = 0x010 ∨ addr = 0x018 ∨ (0x100 ≤ addr ∧ addr ≤ 0x1C0))) ∧
    (∀ (s : State) (addr : Nat) (r : Reg) (rest : List Event), s.busy = false → regAt addr = some r →
      step (s.withHost (.read .reg addr 8) false rest) =
        .next { s with events := rest, answer := some (.value (s.readReg r)) }) ∧
    (∀ s : State, s.readReg .cmd = s.cmd ∧ s.readReg .status = s.statusWord ∧ s.readReg .inAddr = s.inAddr ∧
      s.readReg .inLen = s.inLen ∧ (∀ i : Fin 25, s.readReg (.lane i) = s.lanes[i]) ∧
      ∀ (j k : Fin 8), (s.readReg (.digest j)).extractLsb' (8 * k.val) 8 = s.dig[8 * j.val + k.val]) ∧
    (∀ (s : State) (v : Word) (rest : List Event), s.busy = false →
      step (s.withHost (.write .reg 0x010 8 v) false rest) =
        .next { s with inAddr := v, events := rest, answer := some .ok } ∧
      step (s.withHost (.write .reg 0x018 8 v) false rest) =
        .next { s with inLen := v, events := rest, answer := some .ok } ∧
      (∀ i : Fin 25, step (s.withHost (.write .reg (0x100 + 8 * i.val) 8 v) false rest) =
        .next { s with lanes := s.lanes.set i v, events := rest, answer := some .ok }) ∧
      step (s.withHost (.write .reg 0x000 8 v) false rest) =
        issue v false (({ s with events := rest }.latch v).withAnswer .ok)) ∧
    (∀ (s : State) (t : Transaction) (rest : List Event), s.allows t = false →
      step (s.withHost t false rest) = .next { s with events := rest, answer := some .error })

/-- The register map: which offset is which register, which are unmapped, and what the host and the engine may do with each. Derived from 10_state.md section 4, 20_memory.md section 3, 95_test_vectors.md section 2.13. That offsets above 0x1FF are unmapped and answer ERROR is the model's inference from R56 (assumption log 12). -/
def Obligations.RegisterMap : Prop :=
    (Reg.cmd.offset = 0x000 ∧ Reg.status.offset = 0x008 ∧ Reg.inAddr.offset = 0x010 ∧ Reg.inLen.offset = 0x018 ∧
      (∀ j : Fin 8, (Reg.digest j).offset = 0x040 + 8 * j.val) ∧ ∀ i : Fin 25, (Reg.lane i).offset = 0x100 + 8 * i.val) ∧
    (∀ (a : Nat) (r : Reg), regAt a = some r ↔ a = r.offset) ∧
    (∀ a : Nat, regAt a = none ↔
      a % 8 ≠ 0 ∨ (0x018 < a ∧ a < 0x040) ∨ (0x078 < a ∧ a < 0x100) ∨ 0x1C0 < a) ∧
    (∀ (s : State) (r : Reg) (v : Word), s.busy = false → s.allows (rd r) = true ∧
      (s.allows (wr r v) = true ↔ r = .cmd ∨ r = .inAddr ∨ r = .inLen ∨ ∃ i, r = .lane i)) ∧
    (∀ s : State, s.allows (rd .status) = true) ∧
    (∀ (s : State) (a n : Nat) (v : Word), regAt a = none →
      s.respond (.read .reg a n) = s.withAnswer .error ∧ s.respond (.write .reg a n v) = s.withAnswer .error) ∧
    ∀ s : State, s.advance.cmd = s.cmd ∧ s.advance.inAddr = s.inAddr ∧ s.advance.inLen = s.inLen

/-- An MSG transaction answers OK exactly under the conditions of R57, reads and writes little-endian, else changes nothing. Formalises R57. -/
def Obligations.MessageAccessRules : Prop :=
    (∀ (s : State) (addr n : Nat) (v : Word),
      (s.allows (.read .msg addr n) = true ↔
        s.busy = false ∧ (n = 1 ∨ n = 2 ∨ n = 4 ∨ n = 8) ∧ addr + n ≤ s.msgSize) ∧
      (s.allows (.write .msg addr n v) = true ↔
        s.busy = false ∧ (n = 1 ∨ n = 2 ∨ n = 4 ∨ n = 8) ∧ addr + n ≤ s.msgSize)) ∧
    (∀ (s : State) (addr n : Nat) (rest : List Event), s.allows (.read .msg addr n) = true →
      ∃ u : Word, step (s.withHost (.read .msg addr n) false rest) =
          .next { s with events := rest, answer := some (.value u) } ∧
        u.toNat = ∑ k ∈ Finset.range n, 2 ^ (8 * k) * (s.msgByte (addr + k)).toNat) ∧
    (∀ (s : State) (addr n : Nat) (v : Word) (rest : List Event), s.allows (.write .msg addr n v) = true →
      ∃ t, step (s.withHost (.write .msg addr n v) false rest) = .next t ∧
        (∀ k < n, t.msgByte (addr + k) = v.extractLsb' (8 * k) 8) ∧
        (∀ a, a < addr ∨ addr + n ≤ a → t.msgByte a = s.msgByte a) ∧
        { t with msg := s.msg } = { s with events := rest, answer := some .ok }) ∧
    (∀ (s : State) (t : Transaction) (rest : List Event), s.allows t = false →
      step (s.withHost t false rest) = .next { s with events := rest, answer := some .error })

/-- An access of n bytes is the n single-byte accesses, combined little-endian, for the host and for the engine. Formalises R51. -/
def Obligations.MixedWidthAccessesSeeBytes : Prop :=
    (∀ (s : State) (a n : Nat), s.allows (.read .msg a n) = true →
      (∀ k < n, s.respond (.read .msg (a + k) 1) = s.withAnswer (.value ((s.msgByte (a + k)).setWidth 64))) ∧
      ∃ u : Word, s.respond (.read .msg a n) = s.withAnswer (.value u) ∧
        u.toNat = ∑ k ∈ Finset.range n, 2 ^ (8 * k) * (s.msgByte (a + k)).toNat) ∧
    (∀ (s : State) (j : Fin 8), (s.readReg (.digest j)).toNat =
      ∑ k ∈ Finset.range 8, 2 ^ (8 * k) * (s.digByte (8 * j.val + k)).toNat) ∧
    (∀ (s : State) (a : Nat),
      (s.loadLane .msg a).toNat = ∑ k ∈ Finset.range 8, 2 ^ (8 * k) * (s.msgByte (a + k)).toNat ∧
      (s.loadLane .dig a).toNat = ∑ k ∈ Finset.range 8, 2 ^ (8 * k) * (s.digByte (a + k)).toNat) ∧
    (∀ (s : State) (q : Source) (a n : Nat), s.memRead q a n = (List.range n).flatMap fun k => s.memRead q (a + k) 1) ∧
    (∀ (s : State) (a n : Nat) (v : Word), s.allows (.write .msg a n v) = true →
      (∀ k < n, (s.respond (.write .msg a n v)).respond (.read .msg (a + k) 1) =
        (s.respond (.write .msg a n v)).withAnswer (.value (BitVec.ofNat 64 (v.toNat / 2 ^ (8 * k) % 2 ^ 8)))) ∧
      (n = 8 → (s.respond (.write .msg a n v)).loadLane .msg a = v) ∧
      ∀ x, (s.respond (.write .msg a n v)).msgByte x =
        ((List.range n).foldl (fun u k => u.respond (.write .msg (a + k) 1 (v >>> (8 * k)))) s).msgByte x) ∧
    ∀ s : State, s.busy = false → 24 ≤ s.msgSize →
      let t := s.respond (.write .msg 16 8 0x0706050403020100)
      t.respond (.read .msg 19 1) = t.withAnswer (.value 0x03) ∧ t.loadLane .msg 16 = 0x0706050403020100

/-- While BUSY every transaction but the read of STATUS answers ERROR and changes nothing. Formalises R58. -/
def Obligations.BusyLock : Prop :=
    ∀ (s : State) (rest : List Event), s.busy = true →
    (∀ t : Transaction, t ≠ .read .reg 0x008 8 →
      step (s.withHost t false rest) = .next { s with events := rest, answer := some .error }) ∧
    step (s.withHost (.read .reg 0x008 8) false rest) =
      .next { s with events := rest, answer := some (.value s.statusWord) }

/-- A STATUS read while a command runs shows BUSY, no DONE, no ERR, code 0, and DLEN 0 in a hash command. Derived from 60_exceptions.md section 5. -/
def Obligations.BusyStatusReads : Prop :=
    ∀ s : State, Inv s → s.busy = true →
    s.statusWord = BitVec.ofNat 64 (1 + 2 ^ 16 * s.dlen.toNat) ∧ (s.phase.isHash = true → s.statusWord = 1)

/-- No host read changes any register or memory byte, and a repeated read gives the same answer. Derived from 20_memory.md section 4. -/
def Obligations.ReadsChangeNothing : Prop :=
    ∀ (s : State) (space : Space) (addr n : Nat) (rest : List Event),
    ∃ a, step (s.withHost (.read space addr n) false (.host (.read space addr n) false :: rest)) =
        .next { s with events := .host (.read space addr n) false :: rest, answer := some a } ∧
      step { s with events := .host (.read space addr n) false :: rest, answer := some a } =
        .next { s with events := rest, answer := some a }

/-- Each engine step of a running command brings it one step nearer its completion. Derived from 60_exceptions.md section 5, 41_sponge.md section 6, 42_digest.md section 1. What counts as one engine step is the model's choice (assumption logs 7 and 9). -/
def Obligations.EngineCountsDown : Prop :=
    ∀ s : State, Inv s → s.busy = true → s.advance.stepsLeft + 1 = s.stepsLeft

/-- A running command is busy for exactly the steps it needs and then completes without error. Derived from 60_exceptions.md sections 3 and 5. What counts as one engine step is the model's choice (assumption logs 7 and 9). -/
def Obligations.RunningCommandCompletesOnTime : Prop :=
    ∀ s : State, Inv s → s.busy = true →
    (∀ n, (State.run n s).busy = decide (n < s.stepsLeft)) ∧
    Completed s (State.run s.stepsLeft s) ∧ (State.run s.stepsLeft s).err = false ∧ (State.run s.stepsLeft s).ecode = 0

/-- A command run whole at its CMD write and the same command run step by step reach the same state. Derived from 60_exceptions.md section 5, 10_state.md section 1. The flag that folds the run into the step is the model's choice (assumption log 6). -/
def Obligations.FoldedRunEqualsStepwiseRun : Prop :=
    ∀ (s : State) (w : Word) (rest : List Event), s.busy = false →
    ∃ (n : Nat) (t : State), step (s.withIssue w true rest) = .next t ∧ t.busy = false ∧
      Sys2Proof.core.run (n + 1) (s.withIssue w false (List.replicate n .engine ++ rest)) = .next t

/-- Every step keeps the invariant of the machine. Derived from 10_state.md sections 4 to 7, 20_memory.md section 3, 41_sponge.md section 6, 42_digest.md section 1, 60_exceptions.md section 3. The clauses on the sequencer are the model's inference (assumption logs 7 and 10). -/
def Obligations.StepKeepsTheInvariant : Prop :=
    ∀ s t : State, Inv s → step s = .next t → Inv t

/-- The state after reset meets the invariant. Derived from 10_state.md section 7. The message size at reset is the model's choice (assumption log 1). -/
def Obligations.ResetMeetsTheInvariant : Prop :=
    Inv State.reset

/-- Every step answers a next state: no word, no transaction and no state stops the block. Derived from 93_implementation_defined.md section 1, 30_encoding.md section 4. That no state stops the step is the model's inference (assumption logs 4, 14 and 15). -/
def Obligations.StepAlwaysAnswersANextState : Prop :=
    ∀ s : State, ∃ t, step s = .next t

/-- The hidden registers influence nothing a waiting host can see. Derived from 10_state.md section 8. The event list and the waiting flag are the model's choice (assumption logs 4 and 6). -/
def Obligations.HiddenRegistersAreInvisible : Prop :=
    ∀ s s' : State, SameVisible s s' → s.busy = false → (∀ t rest, s.events ≠ .host t false :: rest) →
    ∃ u u', step s = .next u ∧ step s' = .next u' ∧ SameVisible u u' ∧ u.busy = false

/-- After reset every host-visible register reads zero, the block is idle and PHASE is IDLE. Derived from 10_state.md section 7, 95_test_vectors.md section 2.14. -/
def Obligations.ResetState : Prop :=
    State.reset.lanes = zeroLanes ∧ State.reset.cmd = 0 ∧ State.reset.statusWord = 0 ∧ State.reset.busy = false ∧
    State.reset.inAddr = 0 ∧ State.reset.inLen = 0 ∧ (∀ b < 64, State.reset.digByte b = 0) ∧ State.reset.phase = .idle ∧
    ∀ r : Reg, State.reset.readReg r = 0

/-- Asserting reset in any state puts every register into the reset state and leaves the block idle. Formalises R210. -/
def Obligations.ResetInputFromAnyState : Prop :=
    ∀ (s : State) (rest : List Event), ∃ t, step { s with events := .reset :: rest } = .next t ∧
    t.lanes = zeroLanes ∧ t.cmd = 0 ∧ t.statusWord = 0 ∧ t.busy = false ∧ t.done = false ∧ t.err = false ∧
    t.inAddr = 0 ∧ t.inLen = 0 ∧ (∀ b < 64, t.digByte b = 0) ∧ t.phase = .idle ∧
    ∀ tr : Transaction, t.allows tr = t.spaceAllows tr
end

