-- ==== Sys2Proof/Laws/State.lean ====
section
/-! SUPPORT. One lemma per field per named update of the state, each true by rfl, so that no proof unfolds a record
update; and the fields a run of rounds leaves alone. -/

namespace Sys2Proof.Machine

/-! ### `clearFlags` -/

@[simp] theorem State.clearFlags_lanes (s : State) : (s.clearFlags).lanes = s.lanes := rfl
@[simp] theorem State.clearFlags_cmd (s : State) : (s.clearFlags).cmd = s.cmd := rfl
@[simp] theorem State.clearFlags_busy (s : State) : (s.clearFlags).busy = s.busy := rfl
@[simp] theorem State.clearFlags_done (s : State) : (s.clearFlags).done = false := rfl
@[simp] theorem State.clearFlags_err (s : State) : (s.clearFlags).err = false := rfl
@[simp] theorem State.clearFlags_ecode (s : State) : (s.clearFlags).ecode = 0 := rfl
@[simp] theorem State.clearFlags_dlen (s : State) : (s.clearFlags).dlen = s.dlen := rfl
@[simp] theorem State.clearFlags_inAddr (s : State) : (s.clearFlags).inAddr = s.inAddr := rfl
@[simp] theorem State.clearFlags_inLen (s : State) : (s.clearFlags).inLen = s.inLen := rfl
@[simp] theorem State.clearFlags_dig (s : State) : (s.clearFlags).dig = s.dig := rfl
@[simp] theorem State.clearFlags_msg (s : State) : (s.clearFlags).msg = s.msg := rfl
@[simp] theorem State.clearFlags_blk (s : State) : (s.clearFlags).blk = s.blk := rfl
@[simp] theorem State.clearFlags_phase (s : State) : (s.clearFlags).phase = s.phase := rfl
@[simp] theorem State.clearFlags_opl (s : State) : (s.clearFlags).opl = s.opl := rfl
@[simp] theorem State.clearFlags_mdl (s : State) : (s.clearFlags).mdl = s.mdl := rfl
@[simp] theorem State.clearFlags_rsiz (s : State) : (s.clearFlags).rsiz = s.rsiz := rfl
@[simp] theorem State.clearFlags_rsizw (s : State) : (s.clearFlags).rsizw = s.rsizw := rfl
@[simp] theorem State.clearFlags_src (s : State) : (s.clearFlags).src = s.src := rfl
@[simp] theorem State.clearFlags_ptr (s : State) : (s.clearFlags).ptr = s.ptr := rfl
@[simp] theorem State.clearFlags_rem (s : State) : (s.clearFlags).rem = s.rem := rfl
@[simp] theorem State.clearFlags_kreq (s : State) : (s.clearFlags).kreq = s.kreq := rfl
@[simp] theorem State.clearFlags_pass (s : State) : (s.clearFlags).pass = s.pass := rfl
@[simp] theorem State.clearFlags_nrl (s : State) : (s.clearFlags).nrl = s.nrl := rfl
@[simp] theorem State.clearFlags_rnd (s : State) : (s.clearFlags).rnd = s.rnd := rfl
@[simp] theorem State.clearFlags_bc (s : State) : (s.clearFlags).bc = s.bc := rfl
@[simp] theorem State.clearFlags_tmp (s : State) : (s.clearFlags).tmp = s.tmp := rfl
@[simp] theorem State.clearFlags_msgSize (s : State) : (s.clearFlags).msgSize = s.msgSize := rfl
@[simp] theorem State.clearFlags_resets (s : State) : (s.clearFlags).resets = s.resets := rfl
@[simp] theorem State.clearFlags_events (s : State) : (s.clearFlags).events = s.events := rfl
@[simp] theorem State.clearFlags_answer (s : State) : (s.clearFlags).answer = s.answer := rfl

/-! ### `latch` -/

@[simp] theorem State.latch_lanes (s : State) (w : Word) : (s.latch w).lanes = s.lanes := rfl
@[simp] theorem State.latch_cmd (s : State) (w : Word) : (s.latch w).cmd = w := rfl
@[simp] theorem State.latch_busy (s : State) (w : Word) : (s.latch w).busy = s.busy := rfl
@[simp] theorem State.latch_done (s : State) (w : Word) : (s.latch w).done = false := rfl
@[simp] theorem State.latch_err (s : State) (w : Word) : (s.latch w).err = false := rfl
@[simp] theorem State.latch_ecode (s : State) (w : Word) : (s.latch w).ecode = 0 := rfl
@[simp] theorem State.latch_dlen (s : State) (w : Word) : (s.latch w).dlen = s.dlen := rfl
@[simp] theorem State.latch_inAddr (s : State) (w : Word) : (s.latch w).inAddr = s.inAddr := rfl
@[simp] theorem State.latch_inLen (s : State) (w : Word) : (s.latch w).inLen = s.inLen := rfl
@[simp] theorem State.latch_dig (s : State) (w : Word) : (s.latch w).dig = s.dig := rfl
@[simp] theorem State.latch_msg (s : State) (w : Word) : (s.latch w).msg = s.msg := rfl
@[simp] theorem State.latch_blk (s : State) (w : Word) : (s.latch w).blk = s.blk := rfl
@[simp] theorem State.latch_phase (s : State) (w : Word) : (s.latch w).phase = s.phase := rfl
@[simp] theorem State.latch_opl (s : State) (w : Word) : (s.latch w).opl = s.opl := rfl
@[simp] theorem State.latch_mdl (s : State) (w : Word) : (s.latch w).mdl = s.mdl := rfl
@[simp] theorem State.latch_rsiz (s : State) (w : Word) : (s.latch w).rsiz = s.rsiz := rfl
@[simp] theorem State.latch_rsizw (s : State) (w : Word) : (s.latch w).rsizw = s.rsizw := rfl
@[simp] theorem State.latch_src (s : State) (w : Word) : (s.latch w).src = s.src := rfl
@[simp] theorem State.latch_ptr (s : State) (w : Word) : (s.latch w).ptr = s.ptr := rfl
@[simp] theorem State.latch_rem (s : State) (w : Word) : (s.latch w).rem = s.rem := rfl
@[simp] theorem State.latch_kreq (s : State) (w : Word) : (s.latch w).kreq = s.kreq := rfl
@[simp] theorem State.latch_pass (s : State) (w : Word) : (s.latch w).pass = s.pass := rfl
@[simp] theorem State.latch_nrl (s : State) (w : Word) : (s.latch w).nrl = s.nrl := rfl
@[simp] theorem State.latch_rnd (s : State) (w : Word) : (s.latch w).rnd = s.rnd := rfl
@[simp] theorem State.latch_bc (s : State) (w : Word) : (s.latch w).bc = s.bc := rfl
@[simp] theorem State.latch_tmp (s : State) (w : Word) : (s.latch w).tmp = s.tmp := rfl
@[simp] theorem State.latch_msgSize (s : State) (w : Word) : (s.latch w).msgSize = s.msgSize := rfl
@[simp] theorem State.latch_resets (s : State) (w : Word) : (s.latch w).resets = s.resets := rfl
@[simp] theorem State.latch_events (s : State) (w : Word) : (s.latch w).events = s.events := rfl
@[simp] theorem State.latch_answer (s : State) (w : Word) : (s.latch w).answer = s.answer := rfl

/-! ### `recordError` -/

@[simp] theorem State.recordError_lanes (s : State) (e : CmdError) : (s.recordError e).lanes = s.lanes := rfl
@[simp] theorem State.recordError_cmd (s : State) (e : CmdError) : (s.recordError e).cmd = s.cmd := rfl
@[simp] theorem State.recordError_busy (s : State) (e : CmdError) : (s.recordError e).busy = s.busy := rfl
@[simp] theorem State.recordError_done (s : State) (e : CmdError) : (s.recordError e).done = true := rfl
@[simp] theorem State.recordError_err (s : State) (e : CmdError) : (s.recordError e).err = true := rfl
@[simp] theorem State.recordError_ecode (s : State) (e : CmdError) : (s.recordError e).ecode = e.code := rfl
@[simp] theorem State.recordError_dlen (s : State) (e : CmdError) : (s.recordError e).dlen = s.dlen := rfl
@[simp] theorem State.recordError_inAddr (s : State) (e : CmdError) : (s.recordError e).inAddr = s.inAddr := rfl
@[simp] theorem State.recordError_inLen (s : State) (e : CmdError) : (s.recordError e).inLen = s.inLen := rfl
@[simp] theorem State.recordError_dig (s : State) (e : CmdError) : (s.recordError e).dig = s.dig := rfl
@[simp] theorem State.recordError_msg (s : State) (e : CmdError) : (s.recordError e).msg = s.msg := rfl
@[simp] theorem State.recordError_blk (s : State) (e : CmdError) : (s.recordError e).blk = s.blk := rfl
@[simp] theorem State.recordError_phase (s : State) (e : CmdError) : (s.recordError e).phase = s.phase := rfl
@[simp] theorem State.recordError_opl (s : State) (e : CmdError) : (s.recordError e).opl = s.opl := rfl
@[simp] theorem State.recordError_mdl (s : State) (e : CmdError) : (s.recordError e).mdl = s.mdl := rfl
@[simp] theorem State.recordError_rsiz (s : State) (e : CmdError) : (s.recordError e).rsiz = s.rsiz := rfl
@[simp] theorem State.recordError_rsizw (s : State) (e : CmdError) : (s.recordError e).rsizw = s.rsizw := rfl
@[simp] theorem State.recordError_src (s : State) (e : CmdError) : (s.recordError e).src = s.src := rfl
@[simp] theorem State.recordError_ptr (s : State) (e : CmdError) : (s.recordError e).ptr = s.ptr := rfl
@[simp] theorem State.recordError_rem (s : State) (e : CmdError) : (s.recordError e).rem = s.rem := rfl
@[simp] theorem State.recordError_kreq (s : State) (e : CmdError) : (s.recordError e).kreq = s.kreq := rfl
@[simp] theorem State.recordError_pass (s : State) (e : CmdError) : (s.recordError e).pass = s.pass := rfl
@[simp] theorem State.recordError_nrl (s : State) (e : CmdError) : (s.recordError e).nrl = s.nrl := rfl
@[simp] theorem State.recordError_rnd (s : State) (e : CmdError) : (s.recordError e).rnd = s.rnd := rfl
@[simp] theorem State.recordError_bc (s : State) (e : CmdError) : (s.recordError e).bc = s.bc := rfl
@[simp] theorem State.recordError_tmp (s : State) (e : CmdError) : (s.recordError e).tmp = s.tmp := rfl
@[simp] theorem State.recordError_msgSize (s : State) (e : CmdError) : (s.recordError e).msgSize = s.msgSize := rfl
@[simp] theorem State.recordError_resets (s : State) (e : CmdError) : (s.recordError e).resets = s.resets := rfl
@[simp] theorem State.recordError_events (s : State) (e : CmdError) : (s.recordError e).events = s.events := rfl
@[simp] theorem State.recordError_answer (s : State) (e : CmdError) : (s.recordError e).answer = s.answer := rfl

/-! ### `start` -/

@[simp] theorem State.start_lanes (s : State) (op : Byte) (p : Phase) : (s.start op p).lanes = s.lanes := rfl
@[simp] theorem State.start_cmd (s : State) (op : Byte) (p : Phase) : (s.start op p).cmd = s.cmd := rfl
@[simp] theorem State.start_busy (s : State) (op : Byte) (p : Phase) : (s.start op p).busy = true := rfl
@[simp] theorem State.start_done (s : State) (op : Byte) (p : Phase) : (s.start op p).done = s.done := rfl
@[simp] theorem State.start_err (s : State) (op : Byte) (p : Phase) : (s.start op p).err = s.err := rfl
@[simp] theorem State.start_ecode (s : State) (op : Byte) (p : Phase) : (s.start op p).ecode = s.ecode := rfl
@[simp] theorem State.start_dlen (s : State) (op : Byte) (p : Phase) : (s.start op p).dlen = s.dlen := rfl
@[simp] theorem State.start_inAddr (s : State) (op : Byte) (p : Phase) : (s.start op p).inAddr = s.inAddr := rfl
@[simp] theorem State.start_inLen (s : State) (op : Byte) (p : Phase) : (s.start op p).inLen = s.inLen := rfl
@[simp] theorem State.start_dig (s : State) (op : Byte) (p : Phase) : (s.start op p).dig = s.dig := rfl
@[simp] theorem State.start_msg (s : State) (op : Byte) (p : Phase) : (s.start op p).msg = s.msg := rfl
@[simp] theorem State.start_blk (s : State) (op : Byte) (p : Phase) : (s.start op p).blk = s.blk := rfl
@[simp] theorem State.start_phase (s : State) (op : Byte) (p : Phase) : (s.start op p).phase = p := rfl
@[simp] theorem State.start_opl (s : State) (op : Byte) (p : Phase) : (s.start op p).opl = op := rfl
@[simp] theorem State.start_mdl (s : State) (op : Byte) (p : Phase) : (s.start op p).mdl = s.mdl := rfl
@[simp] theorem State.start_rsiz (s : State) (op : Byte) (p : Phase) : (s.start op p).rsiz = s.rsiz := rfl
@[simp] theorem State.start_rsizw (s : State) (op : Byte) (p : Phase) : (s.start op p).rsizw = s.rsizw := rfl
@[simp] theorem State.start_src (s : State) (op : Byte) (p : Phase) : (s.start op p).src = s.src := rfl
@[simp] theorem State.start_ptr (s : State) (op : Byte) (p : Phase) : (s.start op p).ptr = s.ptr := rfl
@[simp] theorem State.start_rem (s : State) (op : Byte) (p : Phase) : (s.start op p).rem = s.rem := rfl
@[simp] theorem State.start_kreq (s : State) (op : Byte) (p : Phase) : (s.start op p).kreq = s.kreq := rfl
@[simp] theorem State.start_pass (s : State) (op : Byte) (p : Phase) : (s.start op p).pass = s.pass := rfl
@[simp] theorem State.start_nrl (s : State) (op : Byte) (p : Phase) : (s.start op p).nrl = s.nrl := rfl
@[simp] theorem State.start_rnd (s : State) (op : Byte) (p : Phase) : (s.start op p).rnd = s.rnd := rfl
@[simp] theorem State.start_bc (s : State) (op : Byte) (p : Phase) : (s.start op p).bc = s.bc := rfl
@[simp] theorem State.start_tmp (s : State) (op : Byte) (p : Phase) : (s.start op p).tmp = s.tmp := rfl
@[simp] theorem State.start_msgSize (s : State) (op : Byte) (p : Phase) : (s.start op p).msgSize = s.msgSize := rfl
@[simp] theorem State.start_resets (s : State) (op : Byte) (p : Phase) : (s.start op p).resets = s.resets := rfl
@[simp] theorem State.start_events (s : State) (op : Byte) (p : Phase) : (s.start op p).events = s.events := rfl
@[simp] theorem State.start_answer (s : State) (op : Byte) (p : Phase) : (s.start op p).answer = s.answer := rfl

/-! ### `complete` -/

@[simp] theorem State.complete_lanes (s : State) : (s.complete).lanes = s.lanes := rfl
@[simp] theorem State.complete_cmd (s : State) : (s.complete).cmd = s.cmd := rfl
@[simp] theorem State.complete_busy (s : State) : (s.complete).busy = false := rfl
@[simp] theorem State.complete_done (s : State) : (s.complete).done = true := rfl
@[simp] theorem State.complete_err (s : State) : (s.complete).err = s.err := rfl
@[simp] theorem State.complete_ecode (s : State) : (s.complete).ecode = s.ecode := rfl
@[simp] theorem State.complete_dlen (s : State) : (s.complete).dlen = s.dlen := rfl
@[simp] theorem State.complete_inAddr (s : State) : (s.complete).inAddr = s.inAddr := rfl
@[simp] theorem State.complete_inLen (s : State) : (s.complete).inLen = s.inLen := rfl
@[simp] theorem State.complete_dig (s : State) : (s.complete).dig = s.dig := rfl
@[simp] theorem State.complete_msg (s : State) : (s.complete).msg = s.msg := rfl
@[simp] theorem State.complete_blk (s : State) : (s.complete).blk = s.blk := rfl
@[simp] theorem State.complete_phase (s : State) : (s.complete).phase = .idle := rfl
@[simp] theorem State.complete_opl (s : State) : (s.complete).opl = s.opl := rfl
@[simp] theorem State.complete_mdl (s : State) : (s.complete).mdl = s.mdl := rfl
@[simp] theorem State.complete_rsiz (s : State) : (s.complete).rsiz = s.rsiz := rfl
@[simp] theorem State.complete_rsizw (s : State) : (s.complete).rsizw = s.rsizw := rfl
@[simp] theorem State.complete_src (s : State) : (s.complete).src = s.src := rfl
@[simp] theorem State.complete_ptr (s : State) : (s.complete).ptr = s.ptr := rfl
@[simp] theorem State.complete_rem (s : State) : (s.complete).rem = s.rem := rfl
@[simp] theorem State.complete_kreq (s : State) : (s.complete).kreq = s.kreq := rfl
@[simp] theorem State.complete_pass (s : State) : (s.complete).pass = s.pass := rfl
@[simp] theorem State.complete_nrl (s : State) : (s.complete).nrl = s.nrl := rfl
@[simp] theorem State.complete_rnd (s : State) : (s.complete).rnd = s.rnd := rfl
@[simp] theorem State.complete_bc (s : State) : (s.complete).bc = s.bc := rfl
@[simp] theorem State.complete_tmp (s : State) : (s.complete).tmp = s.tmp := rfl
@[simp] theorem State.complete_msgSize (s : State) : (s.complete).msgSize = s.msgSize := rfl
@[simp] theorem State.complete_resets (s : State) : (s.complete).resets = s.resets := rfl
@[simp] theorem State.complete_events (s : State) : (s.complete).events = s.events := rfl
@[simp] theorem State.complete_answer (s : State) : (s.complete).answer = s.answer := rfl

/-! ### `withAnswer` -/

@[simp] theorem State.withAnswer_lanes (s : State) (a : Answer) : (s.withAnswer a).lanes = s.lanes := rfl
@[simp] theorem State.withAnswer_cmd (s : State) (a : Answer) : (s.withAnswer a).cmd = s.cmd := rfl
@[simp] theorem State.withAnswer_busy (s : State) (a : Answer) : (s.withAnswer a).busy = s.busy := rfl
@[simp] theorem State.withAnswer_done (s : State) (a : Answer) : (s.withAnswer a).done = s.done := rfl
@[simp] theorem State.withAnswer_err (s : State) (a : Answer) : (s.withAnswer a).err = s.err := rfl
@[simp] theorem State.withAnswer_ecode (s : State) (a : Answer) : (s.withAnswer a).ecode = s.ecode := rfl
@[simp] theorem State.withAnswer_dlen (s : State) (a : Answer) : (s.withAnswer a).dlen = s.dlen := rfl
@[simp] theorem State.withAnswer_inAddr (s : State) (a : Answer) : (s.withAnswer a).inAddr = s.inAddr := rfl
@[simp] theorem State.withAnswer_inLen (s : State) (a : Answer) : (s.withAnswer a).inLen = s.inLen := rfl
@[simp] theorem State.withAnswer_dig (s : State) (a : Answer) : (s.withAnswer a).dig = s.dig := rfl
@[simp] theorem State.withAnswer_msg (s : State) (a : Answer) : (s.withAnswer a).msg = s.msg := rfl
@[simp] theorem State.withAnswer_blk (s : State) (a : Answer) : (s.withAnswer a).blk = s.blk := rfl
@[simp] theorem State.withAnswer_phase (s : State) (a : Answer) : (s.withAnswer a).phase = s.phase := rfl
@[simp] theorem State.withAnswer_opl (s : State) (a : Answer) : (s.withAnswer a).opl = s.opl := rfl
@[simp] theorem State.withAnswer_mdl (s : State) (a : Answer) : (s.withAnswer a).mdl = s.mdl := rfl
@[simp] theorem State.withAnswer_rsiz (s : State) (a : Answer) : (s.withAnswer a).rsiz = s.rsiz := rfl
@[simp] theorem State.withAnswer_rsizw (s : State) (a : Answer) : (s.withAnswer a).rsizw = s.rsizw := rfl
@[simp] theorem State.withAnswer_src (s : State) (a : Answer) : (s.withAnswer a).src = s.src := rfl
@[simp] theorem State.withAnswer_ptr (s : State) (a : Answer) : (s.withAnswer a).ptr = s.ptr := rfl
@[simp] theorem State.withAnswer_rem (s : State) (a : Answer) : (s.withAnswer a).rem = s.rem := rfl
@[simp] theorem State.withAnswer_kreq (s : State) (a : Answer) : (s.withAnswer a).kreq = s.kreq := rfl
@[simp] theorem State.withAnswer_pass (s : State) (a : Answer) : (s.withAnswer a).pass = s.pass := rfl
@[simp] theorem State.withAnswer_nrl (s : State) (a : Answer) : (s.withAnswer a).nrl = s.nrl := rfl
@[simp] theorem State.withAnswer_rnd (s : State) (a : Answer) : (s.withAnswer a).rnd = s.rnd := rfl
@[simp] theorem State.withAnswer_bc (s : State) (a : Answer) : (s.withAnswer a).bc = s.bc := rfl
@[simp] theorem State.withAnswer_tmp (s : State) (a : Answer) : (s.withAnswer a).tmp = s.tmp := rfl
@[simp] theorem State.withAnswer_msgSize (s : State) (a : Answer) : (s.withAnswer a).msgSize = s.msgSize := rfl
@[simp] theorem State.withAnswer_resets (s : State) (a : Answer) : (s.withAnswer a).resets = s.resets := rfl
@[simp] theorem State.withAnswer_events (s : State) (a : Answer) : (s.withAnswer a).events = s.events := rfl
@[simp] theorem State.withAnswer_answer (s : State) (a : Answer) : (s.withAnswer a).answer = some a := rfl

/-! ### `startPermute` -/

@[simp] theorem State.startPermute_lanes (s : State) (nr : Nat) : (s.startPermute nr).lanes = s.lanes := rfl
@[simp] theorem State.startPermute_cmd (s : State) (nr : Nat) : (s.startPermute nr).cmd = s.cmd := rfl
@[simp] theorem State.startPermute_busy (s : State) (nr : Nat) : (s.startPermute nr).busy = true := rfl
@[simp] theorem State.startPermute_done (s : State) (nr : Nat) : (s.startPermute nr).done = s.done := rfl
@[simp] theorem State.startPermute_err (s : State) (nr : Nat) : (s.startPermute nr).err = s.err := rfl
@[simp] theorem State.startPermute_ecode (s : State) (nr : Nat) : (s.startPermute nr).ecode = s.ecode := rfl
@[simp] theorem State.startPermute_dlen (s : State) (nr : Nat) : (s.startPermute nr).dlen = s.dlen := rfl
@[simp] theorem State.startPermute_inAddr (s : State) (nr : Nat) : (s.startPermute nr).inAddr = s.inAddr := rfl
@[simp] theorem State.startPermute_inLen (s : State) (nr : Nat) : (s.startPermute nr).inLen = s.inLen := rfl
@[simp] theorem State.startPermute_dig (s : State) (nr : Nat) : (s.startPermute nr).dig = s.dig := rfl
@[simp] theorem State.startPermute_msg (s : State) (nr : Nat) : (s.startPermute nr).msg = s.msg := rfl
@[simp] theorem State.startPermute_blk (s : State) (nr : Nat) : (s.startPermute nr).blk = s.blk := rfl
@[simp] theorem State.startPermute_phase (s : State) (nr : Nat) : (s.startPermute nr).phase = .perm := rfl
@[simp] theorem State.startPermute_opl (s : State) (nr : Nat) : (s.startPermute nr).opl = 0x01 := rfl
@[simp] theorem State.startPermute_mdl (s : State) (nr : Nat) : (s.startPermute nr).mdl = s.mdl := rfl
@[simp] theorem State.startPermute_rsiz (s : State) (nr : Nat) : (s.startPermute nr).rsiz = s.rsiz := rfl
@[simp] theorem State.startPermute_rsizw (s : State) (nr : Nat) : (s.startPermute nr).rsizw = s.rsizw := rfl
@[simp] theorem State.startPermute_src (s : State) (nr : Nat) : (s.startPermute nr).src = s.src := rfl
@[simp] theorem State.startPermute_ptr (s : State) (nr : Nat) : (s.startPermute nr).ptr = s.ptr := rfl
@[simp] theorem State.startPermute_rem (s : State) (nr : Nat) : (s.startPermute nr).rem = s.rem := rfl
@[simp] theorem State.startPermute_kreq (s : State) (nr : Nat) : (s.startPermute nr).kreq = s.kreq := rfl
@[simp] theorem State.startPermute_pass (s : State) (nr : Nat) : (s.startPermute nr).pass = s.pass := rfl
@[simp] theorem State.startPermute_nrl (s : State) (nr : Nat) : (s.startPermute nr).nrl = nr := rfl
@[simp] theorem State.startPermute_rnd (s : State) (nr : Nat) : (s.startPermute nr).rnd = 0 := rfl
@[simp] theorem State.startPermute_bc (s : State) (nr : Nat) : (s.startPermute nr).bc = s.bc := rfl
@[simp] theorem State.startPermute_tmp (s : State) (nr : Nat) : (s.startPermute nr).tmp = s.tmp := rfl
@[simp] theorem State.startPermute_msgSize (s : State) (nr : Nat) : (s.startPermute nr).msgSize = s.msgSize := rfl
@[simp] theorem State.startPermute_resets (s : State) (nr : Nat) : (s.startPermute nr).resets = s.resets := rfl
@[simp] theorem State.startPermute_events (s : State) (nr : Nat) : (s.startPermute nr).events = s.events := rfl
@[simp] theorem State.startPermute_answer (s : State) (nr : Nat) : (s.startPermute nr).answer = s.answer := rfl

/-! ### `startHash` -/

@[simp] theorem State.startHash_lanes (s : State) (op : Byte) (m k : Nat) : (s.startHash op m k).lanes = s.lanes := rfl
@[simp] theorem State.startHash_cmd (s : State) (op : Byte) (m k : Nat) : (s.startHash op m k).cmd = s.cmd := rfl
@[simp] theorem State.startHash_busy (s : State) (op : Byte) (m k : Nat) : (s.startHash op m k).busy = true := rfl
@[simp] theorem State.startHash_done (s : State) (op : Byte) (m k : Nat) : (s.startHash op m k).done = s.done := rfl
@[simp] theorem State.startHash_err (s : State) (op : Byte) (m k : Nat) : (s.startHash op m k).err = s.err := rfl
@[simp] theorem State.startHash_ecode (s : State) (op : Byte) (m k : Nat) : (s.startHash op m k).ecode = s.ecode := rfl
@[simp] theorem State.startHash_dlen (s : State) (op : Byte) (m k : Nat) : (s.startHash op m k).dlen = 0 := rfl
@[simp] theorem State.startHash_inAddr (s : State) (op : Byte) (m k : Nat) : (s.startHash op m k).inAddr = s.inAddr := rfl
@[simp] theorem State.startHash_inLen (s : State) (op : Byte) (m k : Nat) : (s.startHash op m k).inLen = s.inLen := rfl
@[simp] theorem State.startHash_dig (s : State) (op : Byte) (m k : Nat) : (s.startHash op m k).dig = Vector.replicate 64 0 := rfl
@[simp] theorem State.startHash_msg (s : State) (op : Byte) (m k : Nat) : (s.startHash op m k).msg = s.msg := rfl
@[simp] theorem State.startHash_blk (s : State) (op : Byte) (m k : Nat) : (s.startHash op m k).blk = s.blk := rfl
@[simp] theorem State.startHash_phase (s : State) (op : Byte) (m k : Nat) : (s.startHash op m k).phase = .init := rfl
@[simp] theorem State.startHash_opl (s : State) (op : Byte) (m k : Nat) : (s.startHash op m k).opl = op := rfl
@[simp] theorem State.startHash_mdl (s : State) (op : Byte) (m k : Nat) : (s.startHash op m k).mdl = m := rfl
@[simp] theorem State.startHash_rsiz (s : State) (op : Byte) (m k : Nat) : (s.startHash op m k).rsiz = s.rsiz := rfl
@[simp] theorem State.startHash_rsizw (s : State) (op : Byte) (m k : Nat) : (s.startHash op m k).rsizw = s.rsizw := rfl
@[simp] theorem State.startHash_src (s : State) (op : Byte) (m k : Nat) : (s.startHash op m k).src = s.src := rfl
@[simp] theorem State.startHash_ptr (s : State) (op : Byte) (m k : Nat) : (s.startHash op m k).ptr = s.ptr := rfl
@[simp] theorem State.startHash_rem (s : State) (op : Byte) (m k : Nat) : (s.startHash op m k).rem = s.rem := rfl
@[simp] theorem State.startHash_kreq (s : State) (op : Byte) (m k : Nat) : (s.startHash op m k).kreq = k := rfl
@[simp] theorem State.startHash_pass (s : State) (op : Byte) (m k : Nat) : (s.startHash op m k).pass = 1 := rfl
@[simp] theorem State.startHash_nrl (s : State) (op : Byte) (m k : Nat) : (s.startHash op m k).nrl = 24 := rfl
@[simp] theorem State.startHash_rnd (s : State) (op : Byte) (m k : Nat) : (s.startHash op m k).rnd = s.rnd := rfl
@[simp] theorem State.startHash_bc (s : State) (op : Byte) (m k : Nat) : (s.startHash op m k).bc = s.bc := rfl
@[simp] theorem State.startHash_tmp (s : State) (op : Byte) (m k : Nat) : (s.startHash op m k).tmp = s.tmp := rfl
@[simp] theorem State.startHash_msgSize (s : State) (op : Byte) (m k : Nat) : (s.startHash op m k).msgSize = s.msgSize := rfl
@[simp] theorem State.startHash_resets (s : State) (op : Byte) (m k : Nat) : (s.startHash op m k).resets = s.resets := rfl
@[simp] theorem State.startHash_events (s : State) (op : Byte) (m k : Nat) : (s.startHash op m k).events = s.events := rfl
@[simp] theorem State.startHash_answer (s : State) (op : Byte) (m k : Nat) : (s.startHash op m k).answer = s.answer := rfl

/-! ### `roundStep` -/

@[simp] theorem State.roundStep_lanes (s : State) : (s.roundStep).lanes = keccakRound s.lanes s.rnd := rfl
@[simp] theorem State.roundStep_cmd (s : State) : (s.roundStep).cmd = s.cmd := rfl
@[simp] theorem State.roundStep_busy (s : State) : (s.roundStep).busy = s.busy := rfl
@[simp] theorem State.roundStep_done (s : State) : (s.roundStep).done = s.done := rfl
@[simp] theorem State.roundStep_err (s : State) : (s.roundStep).err = s.err := rfl
@[simp] theorem State.roundStep_ecode (s : State) : (s.roundStep).ecode = s.ecode := rfl
@[simp] theorem State.roundStep_dlen (s : State) : (s.roundStep).dlen = s.dlen := rfl
@[simp] theorem State.roundStep_inAddr (s : State) : (s.roundStep).inAddr = s.inAddr := rfl
@[simp] theorem State.roundStep_inLen (s : State) : (s.roundStep).inLen = s.inLen := rfl
@[simp] theorem State.roundStep_dig (s : State) : (s.roundStep).dig = s.dig := rfl
@[simp] theorem State.roundStep_msg (s : State) : (s.roundStep).msg = s.msg := rfl
@[simp] theorem State.roundStep_blk (s : State) : (s.roundStep).blk = s.blk := rfl
@[simp] theorem State.roundStep_phase (s : State) : (s.roundStep).phase = s.phase := rfl
@[simp] theorem State.roundStep_opl (s : State) : (s.roundStep).opl = s.opl := rfl
@[simp] theorem State.roundStep_mdl (s : State) : (s.roundStep).mdl = s.mdl := rfl
@[simp] theorem State.roundStep_rsiz (s : State) : (s.roundStep).rsiz = s.rsiz := rfl
@[simp] theorem State.roundStep_rsizw (s : State) : (s.roundStep).rsizw = s.rsizw := rfl
@[simp] theorem State.roundStep_src (s : State) : (s.roundStep).src = s.src := rfl
@[simp] theorem State.roundStep_ptr (s : State) : (s.roundStep).ptr = s.ptr := rfl
@[simp] theorem State.roundStep_rem (s : State) : (s.roundStep).rem = s.rem := rfl
@[simp] theorem State.roundStep_kreq (s : State) : (s.roundStep).kreq = s.kreq := rfl
@[simp] theorem State.roundStep_pass (s : State) : (s.roundStep).pass = s.pass := rfl
@[simp] theorem State.roundStep_nrl (s : State) : (s.roundStep).nrl = s.nrl := rfl
@[simp] theorem State.roundStep_rnd (s : State) : (s.roundStep).rnd = s.rnd + 1 := rfl
@[simp] theorem State.roundStep_bc (s : State) : (s.roundStep).bc = tabulate 5 fun x => lane (rhoPi (theta s.lanes)) (20 + x) := rfl
@[simp] theorem State.roundStep_tmp (s : State) : (s.roundStep).tmp = lane (theta s.lanes) 1 := rfl
@[simp] theorem State.roundStep_msgSize (s : State) : (s.roundStep).msgSize = s.msgSize := rfl
@[simp] theorem State.roundStep_resets (s : State) : (s.roundStep).resets = s.resets := rfl
@[simp] theorem State.roundStep_events (s : State) : (s.roundStep).events = s.events := rfl
@[simp] theorem State.roundStep_answer (s : State) : (s.roundStep).answer = s.answer := rfl

/-! ### `initPass` -/

@[simp] theorem State.initPass_lanes (s : State) (q : Source) (a n : Nat) : (s.initPass q a n).lanes = zeroLanes := rfl
@[simp] theorem State.initPass_cmd (s : State) (q : Source) (a n : Nat) : (s.initPass q a n).cmd = s.cmd := rfl
@[simp] theorem State.initPass_busy (s : State) (q : Source) (a n : Nat) : (s.initPass q a n).busy = s.busy := rfl
@[simp] theorem State.initPass_done (s : State) (q : Source) (a n : Nat) : (s.initPass q a n).done = s.done := rfl
@[simp] theorem State.initPass_err (s : State) (q : Source) (a n : Nat) : (s.initPass q a n).err = s.err := rfl
@[simp] theorem State.initPass_ecode (s : State) (q : Source) (a n : Nat) : (s.initPass q a n).ecode = s.ecode := rfl
@[simp] theorem State.initPass_dlen (s : State) (q : Source) (a n : Nat) : (s.initPass q a n).dlen = s.dlen := rfl
@[simp] theorem State.initPass_inAddr (s : State) (q : Source) (a n : Nat) : (s.initPass q a n).inAddr = s.inAddr := rfl
@[simp] theorem State.initPass_inLen (s : State) (q : Source) (a n : Nat) : (s.initPass q a n).inLen = s.inLen := rfl
@[simp] theorem State.initPass_dig (s : State) (q : Source) (a n : Nat) : (s.initPass q a n).dig = s.dig := rfl
@[simp] theorem State.initPass_msg (s : State) (q : Source) (a n : Nat) : (s.initPass q a n).msg = s.msg := rfl
@[simp] theorem State.initPass_blk (s : State) (q : Source) (a n : Nat) : (s.initPass q a n).blk = s.blk := rfl
@[simp] theorem State.initPass_phase (s : State) (q : Source) (a n : Nat) : (s.initPass q a n).phase = s.phase := rfl
@[simp] theorem State.initPass_opl (s : State) (q : Source) (a n : Nat) : (s.initPass q a n).opl = s.opl := rfl
@[simp] theorem State.initPass_mdl (s : State) (q : Source) (a n : Nat) : (s.initPass q a n).mdl = s.mdl := rfl
@[simp] theorem State.initPass_rsiz (s : State) (q : Source) (a n : Nat) : (s.initPass q a n).rsiz = rate s.mdl := rfl
@[simp] theorem State.initPass_rsizw (s : State) (q : Source) (a n : Nat) : (s.initPass q a n).rsizw = rate s.mdl / 8 := rfl
@[simp] theorem State.initPass_src (s : State) (q : Source) (a n : Nat) : (s.initPass q a n).src = q := rfl
@[simp] theorem State.initPass_ptr (s : State) (q : Source) (a n : Nat) : (s.initPass q a n).ptr = a := rfl
@[simp] theorem State.initPass_rem (s : State) (q : Source) (a n : Nat) : (s.initPass q a n).rem = n := rfl
@[simp] theorem State.initPass_kreq (s : State) (q : Source) (a n : Nat) : (s.initPass q a n).kreq = s.kreq := rfl
@[simp] theorem State.initPass_pass (s : State) (q : Source) (a n : Nat) : (s.initPass q a n).pass = s.pass := rfl
@[simp] theorem State.initPass_nrl (s : State) (q : Source) (a n : Nat) : (s.initPass q a n).nrl = s.nrl := rfl
@[simp] theorem State.initPass_rnd (s : State) (q : Source) (a n : Nat) : (s.initPass q a n).rnd = s.rnd := rfl
@[simp] theorem State.initPass_bc (s : State) (q : Source) (a n : Nat) : (s.initPass q a n).bc = s.bc := rfl
@[simp] theorem State.initPass_tmp (s : State) (q : Source) (a n : Nat) : (s.initPass q a n).tmp = s.tmp := rfl
@[simp] theorem State.initPass_msgSize (s : State) (q : Source) (a n : Nat) : (s.initPass q a n).msgSize = s.msgSize := rfl
@[simp] theorem State.initPass_resets (s : State) (q : Source) (a n : Nat) : (s.initPass q a n).resets = s.resets := rfl
@[simp] theorem State.initPass_events (s : State) (q : Source) (a n : Nat) : (s.initPass q a n).events = s.events := rfl
@[simp] theorem State.initPass_answer (s : State) (q : Source) (a n : Nat) : (s.initPass q a n).answer = s.answer := rfl

/-! ### `xorInput` -/

@[simp] theorem State.xorInput_lanes (s : State) : (s.xorInput).lanes = xorLanes s.lanes s.rsizw fun i => s.loadLane s.src (s.ptr + 8 * i) := rfl
@[simp] theorem State.xorInput_cmd (s : State) : (s.xorInput).cmd = s.cmd := rfl
@[simp] theorem State.xorInput_busy (s : State) : (s.xorInput).busy = s.busy := rfl
@[simp] theorem State.xorInput_done (s : State) : (s.xorInput).done = s.done := rfl
@[simp] theorem State.xorInput_err (s : State) : (s.xorInput).err = s.err := rfl
@[simp] theorem State.xorInput_ecode (s : State) : (s.xorInput).ecode = s.ecode := rfl
@[simp] theorem State.xorInput_dlen (s : State) : (s.xorInput).dlen = s.dlen := rfl
@[simp] theorem State.xorInput_inAddr (s : State) : (s.xorInput).inAddr = s.inAddr := rfl
@[simp] theorem State.xorInput_inLen (s : State) : (s.xorInput).inLen = s.inLen := rfl
@[simp] theorem State.xorInput_dig (s : State) : (s.xorInput).dig = s.dig := rfl
@[simp] theorem State.xorInput_msg (s : State) : (s.xorInput).msg = s.msg := rfl
@[simp] theorem State.xorInput_blk (s : State) : (s.xorInput).blk = s.blk := rfl
@[simp] theorem State.xorInput_phase (s : State) : (s.xorInput).phase = s.phase := rfl
@[simp] theorem State.xorInput_opl (s : State) : (s.xorInput).opl = s.opl := rfl
@[simp] theorem State.xorInput_mdl (s : State) : (s.xorInput).mdl = s.mdl := rfl
@[simp] theorem State.xorInput_rsiz (s : State) : (s.xorInput).rsiz = s.rsiz := rfl
@[simp] theorem State.xorInput_rsizw (s : State) : (s.xorInput).rsizw = s.rsizw := rfl
@[simp] theorem State.xorInput_src (s : State) : (s.xorInput).src = s.src := rfl
@[simp] theorem State.xorInput_ptr (s : State) : (s.xorInput).ptr = s.ptr := rfl
@[simp] theorem State.xorInput_rem (s : State) : (s.xorInput).rem = s.rem := rfl
@[simp] theorem State.xorInput_kreq (s : State) : (s.xorInput).kreq = s.kreq := rfl
@[simp] theorem State.xorInput_pass (s : State) : (s.xorInput).pass = s.pass := rfl
@[simp] theorem State.xorInput_nrl (s : State) : (s.xorInput).nrl = s.nrl := rfl
@[simp] theorem State.xorInput_rnd (s : State) : (s.xorInput).rnd = s.rnd := rfl
@[simp] theorem State.xorInput_bc (s : State) : (s.xorInput).bc = s.bc := rfl
@[simp] theorem State.xorInput_tmp (s : State) : (s.xorInput).tmp = s.tmp := rfl
@[simp] theorem State.xorInput_msgSize (s : State) : (s.xorInput).msgSize = s.msgSize := rfl
@[simp] theorem State.xorInput_resets (s : State) : (s.xorInput).resets = s.resets := rfl
@[simp] theorem State.xorInput_events (s : State) : (s.xorInput).events = s.events := rfl
@[simp] theorem State.xorInput_answer (s : State) : (s.xorInput).answer = s.answer := rfl

/-! ### `nextBlock` -/

@[simp] theorem State.nextBlock_lanes (s : State) : (s.nextBlock).lanes = s.lanes := rfl
@[simp] theorem State.nextBlock_cmd (s : State) : (s.nextBlock).cmd = s.cmd := rfl
@[simp] theorem State.nextBlock_busy (s : State) : (s.nextBlock).busy = s.busy := rfl
@[simp] theorem State.nextBlock_done (s : State) : (s.nextBlock).done = s.done := rfl
@[simp] theorem State.nextBlock_err (s : State) : (s.nextBlock).err = s.err := rfl
@[simp] theorem State.nextBlock_ecode (s : State) : (s.nextBlock).ecode = s.ecode := rfl
@[simp] theorem State.nextBlock_dlen (s : State) : (s.nextBlock).dlen = s.dlen := rfl
@[simp] theorem State.nextBlock_inAddr (s : State) : (s.nextBlock).inAddr = s.inAddr := rfl
@[simp] theorem State.nextBlock_inLen (s : State) : (s.nextBlock).inLen = s.inLen := rfl
@[simp] theorem State.nextBlock_dig (s : State) : (s.nextBlock).dig = s.dig := rfl
@[simp] theorem State.nextBlock_msg (s : State) : (s.nextBlock).msg = s.msg := rfl
@[simp] theorem State.nextBlock_blk (s : State) : (s.nextBlock).blk = s.blk := rfl
@[simp] theorem State.nextBlock_phase (s : State) : (s.nextBlock).phase = s.phase := rfl
@[simp] theorem State.nextBlock_opl (s : State) : (s.nextBlock).opl = s.opl := rfl
@[simp] theorem State.nextBlock_mdl (s : State) : (s.nextBlock).mdl = s.mdl := rfl
@[simp] theorem State.nextBlock_rsiz (s : State) : (s.nextBlock).rsiz = s.rsiz := rfl
@[simp] theorem State.nextBlock_rsizw (s : State) : (s.nextBlock).rsizw = s.rsizw := rfl
@[simp] theorem State.nextBlock_src (s : State) : (s.nextBlock).src = s.src := rfl
@[simp] theorem State.nextBlock_ptr (s : State) : (s.nextBlock).ptr = s.ptr + s.rsiz := rfl
@[simp] theorem State.nextBlock_rem (s : State) : (s.nextBlock).rem = s.rem - s.rsiz := rfl
@[simp] theorem State.nextBlock_kreq (s : State) : (s.nextBlock).kreq = s.kreq := rfl
@[simp] theorem State.nextBlock_pass (s : State) : (s.nextBlock).pass = s.pass := rfl
@[simp] theorem State.nextBlock_nrl (s : State) : (s.nextBlock).nrl = s.nrl := rfl
@[simp] theorem State.nextBlock_rnd (s : State) : (s.nextBlock).rnd = s.rnd := rfl
@[simp] theorem State.nextBlock_bc (s : State) : (s.nextBlock).bc = s.bc := rfl
@[simp] theorem State.nextBlock_tmp (s : State) : (s.nextBlock).tmp = s.tmp := rfl
@[simp] theorem State.nextBlock_msgSize (s : State) : (s.nextBlock).msgSize = s.msgSize := rfl
@[simp] theorem State.nextBlock_resets (s : State) : (s.nextBlock).resets = s.resets := rfl
@[simp] theorem State.nextBlock_events (s : State) : (s.nextBlock).events = s.events := rfl
@[simp] theorem State.nextBlock_answer (s : State) : (s.nextBlock).answer = s.answer := rfl

/-! ### `padStep` -/

@[simp] theorem State.padStep_lanes (s : State) : (s.padStep).lanes = s.lanes := rfl
@[simp] theorem State.padStep_cmd (s : State) : (s.padStep).cmd = s.cmd := rfl
@[simp] theorem State.padStep_busy (s : State) : (s.padStep).busy = s.busy := rfl
@[simp] theorem State.padStep_done (s : State) : (s.padStep).done = s.done := rfl
@[simp] theorem State.padStep_err (s : State) : (s.padStep).err = s.err := rfl
@[simp] theorem State.padStep_ecode (s : State) : (s.padStep).ecode = s.ecode := rfl
@[simp] theorem State.padStep_dlen (s : State) : (s.padStep).dlen = s.dlen := rfl
@[simp] theorem State.padStep_inAddr (s : State) : (s.padStep).inAddr = s.inAddr := rfl
@[simp] theorem State.padStep_inLen (s : State) : (s.padStep).inLen = s.inLen := rfl
@[simp] theorem State.padStep_dig (s : State) : (s.padStep).dig = s.dig := rfl
@[simp] theorem State.padStep_msg (s : State) : (s.padStep).msg = s.msg := rfl
@[simp] theorem State.padStep_blk (s : State) : (s.padStep).blk = tabulate 144 fun j => if j + 1 = s.rsiz then s.unfinishedBlk j ||| 0x80 else s.unfinishedBlk j := rfl
@[simp] theorem State.padStep_phase (s : State) : (s.padStep).phase = s.phase := rfl
@[simp] theorem State.padStep_opl (s : State) : (s.padStep).opl = s.opl := rfl
@[simp] theorem State.padStep_mdl (s : State) : (s.padStep).mdl = s.mdl := rfl
@[simp] theorem State.padStep_rsiz (s : State) : (s.padStep).rsiz = s.rsiz := rfl
@[simp] theorem State.padStep_rsizw (s : State) : (s.padStep).rsizw = s.rsizw := rfl
@[simp] theorem State.padStep_src (s : State) : (s.padStep).src = s.src := rfl
@[simp] theorem State.padStep_ptr (s : State) : (s.padStep).ptr = s.ptr := rfl
@[simp] theorem State.padStep_rem (s : State) : (s.padStep).rem = s.rem := rfl
@[simp] theorem State.padStep_kreq (s : State) : (s.padStep).kreq = s.kreq := rfl
@[simp] theorem State.padStep_pass (s : State) : (s.padStep).pass = s.pass := rfl
@[simp] theorem State.padStep_nrl (s : State) : (s.padStep).nrl = s.nrl := rfl
@[simp] theorem State.padStep_rnd (s : State) : (s.padStep).rnd = s.rnd := rfl
@[simp] theorem State.padStep_bc (s : State) : (s.padStep).bc = s.bc := rfl
@[simp] theorem State.padStep_tmp (s : State) : (s.padStep).tmp = s.tmp := rfl
@[simp] theorem State.padStep_msgSize (s : State) : (s.padStep).msgSize = s.msgSize := rfl
@[simp] theorem State.padStep_resets (s : State) : (s.padStep).resets = s.resets := rfl
@[simp] theorem State.padStep_events (s : State) : (s.padStep).events = s.events := rfl
@[simp] theorem State.padStep_answer (s : State) : (s.padStep).answer = s.answer := rfl

/-! ### `xorBlk` -/

@[simp] theorem State.xorBlk_lanes (s : State) : (s.xorBlk).lanes = xorLanes s.lanes s.rsizw fun i => le64 ((List.range 8).map fun k => s.blkByte (8 * i + k)) := rfl
@[simp] theorem State.xorBlk_cmd (s : State) : (s.xorBlk).cmd = s.cmd := rfl
@[simp] theorem State.xorBlk_busy (s : State) : (s.xorBlk).busy = s.busy := rfl
@[simp] theorem State.xorBlk_done (s : State) : (s.xorBlk).done = s.done := rfl
@[simp] theorem State.xorBlk_err (s : State) : (s.xorBlk).err = s.err := rfl
@[simp] theorem State.xorBlk_ecode (s : State) : (s.xorBlk).ecode = s.ecode := rfl
@[simp] theorem State.xorBlk_dlen (s : State) : (s.xorBlk).dlen = s.dlen := rfl
@[simp] theorem State.xorBlk_inAddr (s : State) : (s.xorBlk).inAddr = s.inAddr := rfl
@[simp] theorem State.xorBlk_inLen (s : State) : (s.xorBlk).inLen = s.inLen := rfl
@[simp] theorem State.xorBlk_dig (s : State) : (s.xorBlk).dig = s.dig := rfl
@[simp] theorem State.xorBlk_msg (s : State) : (s.xorBlk).msg = s.msg := rfl
@[simp] theorem State.xorBlk_blk (s : State) : (s.xorBlk).blk = s.blk := rfl
@[simp] theorem State.xorBlk_phase (s : State) : (s.xorBlk).phase = s.phase := rfl
@[simp] theorem State.xorBlk_opl (s : State) : (s.xorBlk).opl = s.opl := rfl
@[simp] theorem State.xorBlk_mdl (s : State) : (s.xorBlk).mdl = s.mdl := rfl
@[simp] theorem State.xorBlk_rsiz (s : State) : (s.xorBlk).rsiz = s.rsiz := rfl
@[simp] theorem State.xorBlk_rsizw (s : State) : (s.xorBlk).rsizw = s.rsizw := rfl
@[simp] theorem State.xorBlk_src (s : State) : (s.xorBlk).src = s.src := rfl
@[simp] theorem State.xorBlk_ptr (s : State) : (s.xorBlk).ptr = s.ptr := rfl
@[simp] theorem State.xorBlk_rem (s : State) : (s.xorBlk).rem = s.rem := rfl
@[simp] theorem State.xorBlk_kreq (s : State) : (s.xorBlk).kreq = s.kreq := rfl
@[simp] theorem State.xorBlk_pass (s : State) : (s.xorBlk).pass = s.pass := rfl
@[simp] theorem State.xorBlk_nrl (s : State) : (s.xorBlk).nrl = s.nrl := rfl
@[simp] theorem State.xorBlk_rnd (s : State) : (s.xorBlk).rnd = s.rnd := rfl
@[simp] theorem State.xorBlk_bc (s : State) : (s.xorBlk).bc = s.bc := rfl
@[simp] theorem State.xorBlk_tmp (s : State) : (s.xorBlk).tmp = s.tmp := rfl
@[simp] theorem State.xorBlk_msgSize (s : State) : (s.xorBlk).msgSize = s.msgSize := rfl
@[simp] theorem State.xorBlk_resets (s : State) : (s.xorBlk).resets = s.resets := rfl
@[simp] theorem State.xorBlk_events (s : State) : (s.xorBlk).events = s.events := rfl
@[simp] theorem State.xorBlk_answer (s : State) : (s.xorBlk).answer = s.answer := rfl

/-! ### `squeezeStep` -/

@[simp] theorem State.squeezeStep_lanes (s : State) : (s.squeezeStep).lanes = s.lanes := rfl
@[simp] theorem State.squeezeStep_cmd (s : State) : (s.squeezeStep).cmd = s.cmd := rfl
@[simp] theorem State.squeezeStep_busy (s : State) : (s.squeezeStep).busy = s.busy := rfl
@[simp] theorem State.squeezeStep_done (s : State) : (s.squeezeStep).done = s.done := rfl
@[simp] theorem State.squeezeStep_err (s : State) : (s.squeezeStep).err = s.err := rfl
@[simp] theorem State.squeezeStep_ecode (s : State) : (s.squeezeStep).ecode = s.ecode := rfl
@[simp] theorem State.squeezeStep_dlen (s : State) : (s.squeezeStep).dlen = s.dlen := rfl
@[simp] theorem State.squeezeStep_inAddr (s : State) : (s.squeezeStep).inAddr = s.inAddr := rfl
@[simp] theorem State.squeezeStep_inLen (s : State) : (s.squeezeStep).inLen = s.inLen := rfl
@[simp] theorem State.squeezeStep_dig (s : State) : (s.squeezeStep).dig = tabulate 64 fun b => if b < s.mdl then stateByte s.lanes b else 0x00 := rfl
@[simp] theorem State.squeezeStep_msg (s : State) : (s.squeezeStep).msg = s.msg := rfl
@[simp] theorem State.squeezeStep_blk (s : State) : (s.squeezeStep).blk = s.blk := rfl
@[simp] theorem State.squeezeStep_phase (s : State) : (s.squeezeStep).phase = s.phase := rfl
@[simp] theorem State.squeezeStep_opl (s : State) : (s.squeezeStep).opl = s.opl := rfl
@[simp] theorem State.squeezeStep_mdl (s : State) : (s.squeezeStep).mdl = s.mdl := rfl
@[simp] theorem State.squeezeStep_rsiz (s : State) : (s.squeezeStep).rsiz = s.rsiz := rfl
@[simp] theorem State.squeezeStep_rsizw (s : State) : (s.squeezeStep).rsizw = s.rsizw := rfl
@[simp] theorem State.squeezeStep_src (s : State) : (s.squeezeStep).src = s.src := rfl
@[simp] theorem State.squeezeStep_ptr (s : State) : (s.squeezeStep).ptr = s.ptr := rfl
@[simp] theorem State.squeezeStep_rem (s : State) : (s.squeezeStep).rem = s.rem := rfl
@[simp] theorem State.squeezeStep_kreq (s : State) : (s.squeezeStep).kreq = s.kreq := rfl
@[simp] theorem State.squeezeStep_pass (s : State) : (s.squeezeStep).pass = s.pass := rfl
@[simp] theorem State.squeezeStep_nrl (s : State) : (s.squeezeStep).nrl = s.nrl := rfl
@[simp] theorem State.squeezeStep_rnd (s : State) : (s.squeezeStep).rnd = s.rnd := rfl
@[simp] theorem State.squeezeStep_bc (s : State) : (s.squeezeStep).bc = s.bc := rfl
@[simp] theorem State.squeezeStep_tmp (s : State) : (s.squeezeStep).tmp = s.tmp := rfl
@[simp] theorem State.squeezeStep_msgSize (s : State) : (s.squeezeStep).msgSize = s.msgSize := rfl
@[simp] theorem State.squeezeStep_resets (s : State) : (s.squeezeStep).resets = s.resets := rfl
@[simp] theorem State.squeezeStep_events (s : State) : (s.squeezeStep).events = s.events := rfl
@[simp] theorem State.squeezeStep_answer (s : State) : (s.squeezeStep).answer = s.answer := rfl

/-! ### `rounds` and `permutation` -/

@[simp] theorem State.rounds_cmd (n : Nat) (s : State) : (State.rounds n s).cmd = s.cmd := by
  induction n generalizing s with
  | zero => rfl
  | succ n ih => exact ih s.roundStep
@[simp] theorem State.rounds_busy (n : Nat) (s : State) : (State.rounds n s).busy = s.busy := by
  induction n generalizing s with
  | zero => rfl
  | succ n ih => exact ih s.roundStep
@[simp] theorem State.rounds_done (n : Nat) (s : State) : (State.rounds n s).done = s.done := by
  induction n generalizing s with
  | zero => rfl
  | succ n ih => exact ih s.roundStep
@[simp] theorem State.rounds_err (n : Nat) (s : State) : (State.rounds n s).err = s.err := by
  induction n generalizing s with
  | zero => rfl
  | succ n ih => exact ih s.roundStep
@[simp] theorem State.rounds_ecode (n : Nat) (s : State) : (State.rounds n s).ecode = s.ecode := by
  induction n generalizing s with
  | zero => rfl
  | succ n ih => exact ih s.roundStep
@[simp] theorem State.rounds_dlen (n : Nat) (s : State) : (State.rounds n s).dlen = s.dlen := by
  induction n generalizing s with
  | zero => rfl
  | succ n ih => exact ih s.roundStep
@[simp] theorem State.rounds_inAddr (n : Nat) (s : State) : (State.rounds n s).inAddr = s.inAddr := by
  induction n generalizing s with
  | zero => rfl
  | succ n ih => exact ih s.roundStep
@[simp] theorem State.rounds_inLen (n : Nat) (s : State) : (State.rounds n s).inLen = s.inLen := by
  induction n generalizing s with
  | zero => rfl
  | succ n ih => exact ih s.roundStep
@[simp] theorem State.rounds_dig (n : Nat) (s : State) : (State.rounds n s).dig = s.dig := by
  induction n generalizing s with
  | zero => rfl
  | succ n ih => exact ih s.roundStep
@[simp] theorem State.rounds_msg (n : Nat) (s : State) : (State.rounds n s).msg = s.msg := by
  induction n generalizing s with
  | zero => rfl
  | succ n ih => exact ih s.roundStep
@[simp] theorem State.rounds_blk (n : Nat) (s : State) : (State.rounds n s).blk = s.blk := by
  induction n generalizing s with
  | zero => rfl
  | succ n ih => exact ih s.roundStep
@[simp] theorem State.rounds_phase (n : Nat) (s : State) : (State.rounds n s).phase = s.phase := by
  induction n generalizing s with
  | zero => rfl
  | succ n ih => exact ih s.roundStep
@[simp] theorem State.rounds_opl (n : Nat) (s : State) : (State.rounds n s).opl = s.opl := by
  induction n generalizing s with
  | zero => rfl
  | succ n ih => exact ih s.roundStep
@[simp] theorem State.rounds_mdl (n : Nat) (s : State) : (State.rounds n s).mdl = s.mdl := by
  induction n generalizing s with
  | zero => rfl
  | succ n ih => exact ih s.roundStep
@[simp] theorem State.rounds_rsiz (n : Nat) (s : State) : (State.rounds n s).rsiz = s.rsiz := by
  induction n generalizing s with
  | zero => rfl
  | succ n ih => exact ih s.roundStep
@[simp] theorem State.rounds_rsizw (n : Nat) (s : State) : (State.rounds n s).rsizw = s.rsizw := by
  induction n generalizing s with
  | zero => rfl
  | succ n ih => exact ih s.roundStep
@[simp] theorem State.rounds_src (n : Nat) (s : State) : (State.rounds n s).src = s.src := by
  induction n generalizing s with
  | zero => rfl
  | succ n ih => exact ih s.roundStep
@[simp] theorem State.rounds_ptr (n : Nat) (s : State) : (State.rounds n s).ptr = s.ptr := by
  induction n generalizing s with
  | zero => rfl
  | succ n ih => exact ih s.roundStep
@[simp] theorem State.rounds_rem (n : Nat) (s : State) : (State.rounds n s).rem = s.rem := by
  induction n generalizing s with
  | zero => rfl
  | succ n ih => exact ih s.roundStep
@[simp] theorem State.rounds_kreq (n : Nat) (s : State) : (State.rounds n s).kreq = s.kreq := by
  induction n generalizing s with
  | zero => rfl
  | succ n ih => exact ih s.roundStep
@[simp] theorem State.rounds_pass (n : Nat) (s : State) : (State.rounds n s).pass = s.pass := by
  induction n generalizing s with
  | zero => rfl
  | succ n ih => exact ih s.roundStep
@[simp] theorem State.rounds_nrl (n : Nat) (s : State) : (State.rounds n s).nrl = s.nrl := by
  induction n generalizing s with
  | zero => rfl
  | succ n ih => exact ih s.roundStep
@[simp] theorem State.rounds_msgSize (n : Nat) (s : State) : (State.rounds n s).msgSize = s.msgSize := by
  induction n generalizing s with
  | zero => rfl
  | succ n ih => exact ih s.roundStep
@[simp] theorem State.rounds_resets (n : Nat) (s : State) : (State.rounds n s).resets = s.resets := by
  induction n generalizing s with
  | zero => rfl
  | succ n ih => exact ih s.roundStep
@[simp] theorem State.rounds_events (n : Nat) (s : State) : (State.rounds n s).events = s.events := by
  induction n generalizing s with
  | zero => rfl
  | succ n ih => exact ih s.roundStep
@[simp] theorem State.rounds_answer (n : Nat) (s : State) : (State.rounds n s).answer = s.answer := by
  induction n generalizing s with
  | zero => rfl
  | succ n ih => exact ih s.roundStep

@[simp] theorem State.permutation_cmd (s : State) : s.permutation.cmd = s.cmd := by
  simp [State.permutation]
@[simp] theorem State.permutation_busy (s : State) : s.permutation.busy = s.busy := by
  simp [State.permutation]
@[simp] theorem State.permutation_done (s : State) : s.permutation.done = s.done := by
  simp [State.permutation]
@[simp] theorem State.permutation_err (s : State) : s.permutation.err = s.err := by
  simp [State.permutation]
@[simp] theorem State.permutation_ecode (s : State) : s.permutation.ecode = s.ecode := by
  simp [State.permutation]
@[simp] theorem State.permutation_dlen (s : State) : s.permutation.dlen = s.dlen := by
  simp [State.permutation]
@[simp] theorem State.permutation_inAddr (s : State) : s.permutation.inAddr = s.inAddr := by
  simp [State.permutation]
@[simp] theorem State.permutation_inLen (s : State) : s.permutation.inLen = s.inLen := by
  simp [State.permutation]
@[simp] theorem State.permutation_dig (s : State) : s.permutation.dig = s.dig := by
  simp [State.permutation]
@[simp] theorem State.permutation_msg (s : State) : s.permutation.msg = s.msg := by
  simp [State.permutation]
@[simp] theorem State.permutation_blk (s : State) : s.permutation.blk = s.blk := by
  simp [State.permutation]
@[simp] theorem State.permutation_phase (s : State) : s.permutation.phase = s.phase := by
  simp [State.permutation]
@[simp] theorem State.permutation_opl (s : State) : s.permutation.opl = s.opl := by
  simp [State.permutation]
@[simp] theorem State.permutation_mdl (s : State) : s.permutation.mdl = s.mdl := by
  simp [State.permutation]
@[simp] theorem State.permutation_rsiz (s : State) : s.permutation.rsiz = s.rsiz := by
  simp [State.permutation]
@[simp] theorem State.permutation_rsizw (s : State) : s.permutation.rsizw = s.rsizw := by
  simp [State.permutation]
@[simp] theorem State.permutation_src (s : State) : s.permutation.src = s.src := by
  simp [State.permutation]
@[simp] theorem State.permutation_ptr (s : State) : s.permutation.ptr = s.ptr := by
  simp [State.permutation]
@[simp] theorem State.permutation_rem (s : State) : s.permutation.rem = s.rem := by
  simp [State.permutation]
@[simp] theorem State.permutation_kreq (s : State) : s.permutation.kreq = s.kreq := by
  simp [State.permutation]
@[simp] theorem State.permutation_pass (s : State) : s.permutation.pass = s.pass := by
  simp [State.permutation]
@[simp] theorem State.permutation_nrl (s : State) : s.permutation.nrl = s.nrl := by
  simp [State.permutation]
@[simp] theorem State.permutation_msgSize (s : State) : s.permutation.msgSize = s.msgSize := by
  simp [State.permutation]
@[simp] theorem State.permutation_resets (s : State) : s.permutation.resets = s.resets := by
  simp [State.permutation]
@[simp] theorem State.permutation_events (s : State) : s.permutation.events = s.events := by
  simp [State.permutation]
@[simp] theorem State.permutation_answer (s : State) : s.permutation.answer = s.answer := by
  simp [State.permutation]

end Sys2Proof.Machine
end

