-- ==== Sys2Proof/Laws/Words.lean ====
section
/-! SUPPORT. Lanes, bytes and tabulated arrays: what each read gives after each way of building one. -/

namespace Sys2Proof.Machine

theorem tabulate_toList {α : Type} (n : Nat) (f : Nat → α) : (tabulate n f).toList = (List.range n).map f := by
  simp [tabulate]

theorem tabulate_getD {α : Type} (n : Nat) (f : Nat → α) (i : Nat) (d : α) :
    (tabulate n f).toList.getD i d = if i < n then f i else d := by
  rw [tabulate_toList]
  by_cases h : i < n <;> simp [List.getD_eq_getElem?_getD, h]

theorem lane_tabulate (f : Nat → Word) (i : Nat) : lane (tabulate 25 f) i = if i < 25 then f i else 0 :=
  tabulate_getD 25 f i 0

theorem lane_eq_getElem (A : Lanes) {i : Nat} (h : i < 25) : lane A i = A[i] := by
  simp [lane, List.getD_eq_getElem?_getD, h]

theorem lane_ge (A : Lanes) {i : Nat} (h : 25 ≤ i) : lane A i = 0 := by
  simp [lane, List.getD_eq_getElem?_getD, h]

/-- Two lane arrays with the same 25 lanes are equal. -/
theorem lanes_ext {A B : Lanes} (h : ∀ i < 25, lane A i = lane B i) : A = B := by
  apply Vector.ext
  intro i hi
  have := h i hi
  rwa [lane_eq_getElem A hi, lane_eq_getElem B hi] at this

theorem lane_set (A : Lanes) (i : Fin 25) (v : Word) (j : Nat) :
    lane (A.set i v) j = if j = i.val then v else lane A j := by
  by_cases hj : j < 25
  · rw [lane_eq_getElem _ hj, lane_eq_getElem _ hj, Vector.getElem_set]
    simp [eq_comm]
  · have : j ≠ i.val := by omega
    rw [lane_ge _ (by omega), lane_ge _ (by omega), if_neg this]

theorem lane_zeroLanes (i : Nat) : lane zeroLanes i = 0 := by
  by_cases h : i < 25
  · rw [lane_eq_getElem _ h]; simp [zeroLanes]
  · exact lane_ge _ (by omega)

theorem State.digByte_eq_getElem (s : State) {b : Nat} (h : b < 64) : s.digByte b = s.dig[b] := by
  simp [State.digByte, List.getD_eq_getElem?_getD, h]

theorem State.digByte_ge (s : State) {b : Nat} (h : 64 ≤ b) : s.digByte b = 0 := by
  simp [State.digByte, List.getD_eq_getElem?_getD, h]

theorem State.digByte_padStep (s : State) (b : Nat) : s.padStep.digByte b = s.digByte b := rfl

/-- A byte of `DIG` after the squeeze step (R136). -/
theorem State.digByte_squeezeStep (s : State) (b : Nat) :
    s.squeezeStep.digByte b = if b < 64 ∧ b < s.mdl then stateByte s.lanes b else 0 := by
  simp only [State.digByte, State.squeezeStep_dig, tabulate_getD]
  by_cases h1 : b < 64 <;> by_cases h2 : b < s.mdl <;> simp [h1, h2]

/-- A byte of `BLK` after the pad step (R134). -/
theorem State.blkByte_padStep (s : State) (j : Nat) :
    s.padStep.blkByte j =
      if j < 144 then (if j + 1 = s.rsiz then s.unfinishedBlk j ||| 0x80 else s.unfinishedBlk j) else 0 := by
  simp only [State.blkByte, State.padStep_blk, tabulate_getD]

@[simp] theorem bytes8_length (v : Word) : (bytes8 v).length = 8 := by simp [bytes8]

theorem bytes8_getD (v : Word) {k : Nat} (h : k < 8) : (bytes8 v).getD k 0 = byteOf v k := by
  simp [bytes8, List.getD_eq_getElem?_getD, h]

@[simp] theorem State.memRead_length (s : State) (q : Source) (a n : Nat) : (s.memRead q a n).length = n := by
  simp [State.memRead]

theorem State.memRead_getElem (s : State) (q : Source) (a n : Nat) {k : Nat} (h : k < (s.memRead q a n).length) :
    (s.memRead q a n)[k] = s.sourceByte q (a + k) := by
  simp [State.memRead]

theorem leNat_lt (bs : List Byte) : leNat bs < 2 ^ (8 * bs.length) := by
  induction bs with
  | nil => simp [leNat]
  | cons b bs ih =>
    have hb := b.isLt
    have e : 2 ^ (8 * (b :: bs).length) = 2 ^ 8 * 2 ^ (8 * bs.length) := by
      rw [List.length_cons, ← pow_add]; congr 1; omega
    rw [leNat, e]
    have : 2 ^ 8 * leNat bs + 2 ^ 8 ≤ 2 ^ 8 * 2 ^ (8 * bs.length) := by
      calc 2 ^ 8 * leNat bs + 2 ^ 8 = 2 ^ 8 * (leNat bs + 1) := by ring
        _ ≤ _ := Nat.mul_le_mul_left _ ih
    omega

/-- `B[0] + 2^8 * B[1] + ...` as a sum over the positions (R11, R50). -/
theorem leNat_eq_sum (bs : List Byte) : leNat bs = ∑ k ∈ Finset.range bs.length, 2 ^ (8 * k) * (bs.getD k 0).toNat := by
  induction bs with
  | nil => rfl
  | cons b bs ih =>
    rw [List.length_cons, Finset.sum_range_succ', leNat, ih, Finset.mul_sum, Nat.add_comm]
    simp only [List.getD_cons_succ, List.getD_cons_zero, Nat.mul_zero, pow_zero, one_mul]
    congr 1
    refine Finset.sum_congr rfl fun k _ => ?_
    rw [← mul_assoc, ← pow_add]
    congr 2
    ring

/-- Up to eight bytes fit a word. -/
theorem le64_toNat (bs : List Byte) (h : bs.length ≤ 8) : (le64 bs).toNat = leNat bs := by
  rw [le64, BitVec.toNat_ofNat, Nat.mod_eq_of_lt]
  exact lt_of_lt_of_le (leNat_lt bs) (Nat.pow_le_pow_right (by omega) (by omega))

/-- The byte `k` of a number put together little-endian is the `k`-th byte (R11, R51). -/
theorem leNat_byte (bs : List Byte) (k : Nat) : BitVec.ofNat 8 (leNat bs >>> (8 * k)) = bs.getD k 0 := by
  induction bs generalizing k with
  | nil => simp [leNat]
  | cons b bs ih =>
    cases k with
    | zero =>
      apply BitVec.eq_of_toNat_eq
      have := b.isLt
      simp [leNat]
      omega
    | succ k =>
      have : (b.toNat + 2 ^ 8 * leNat bs) >>> (8 * (k + 1)) = leNat bs >>> (8 * k) := by
        have hb := b.isLt
        rw [show 8 * (k + 1) = 8 + 8 * k by ring, Nat.shiftRight_add]
        congr 1
        rw [Nat.shiftRight_eq_div_pow]
        omega
      rw [leNat, this, ih]
      simp

/-- Byte `k` of `LE64(B)`, `B` of at most eight bytes (R11). -/
theorem byteOf_le64 (bs : List Byte) (h : bs.length ≤ 8) (k : Nat) : byteOf (le64 bs) k = bs.getD k 0 := by
  have h1 := leNat_lt bs
  have h2 : 2 ^ (8 * bs.length) ≤ 2 ^ 64 := Nat.pow_le_pow_right (by omega) (by omega)
  rw [byteOf, le64, BitVec.toNat_ofNat, Nat.mod_eq_of_lt (by omega), leNat_byte]

/-- `stateBytes` byte by byte (R53). -/
theorem stateBytes_getD (A : Lanes) (b : Nat) : (stateBytes A).getD b 0 = stateByte A b := by
  have gen : ∀ (l : List Word) (b : Nat), (l.flatMap bytes8).getD b 0 = byteOf (l.getD (b / 8) 0) (b % 8) := by
    intro l
    induction l with
    | nil => intro b; simp [byteOf]
    | cons a l ih =>
      intro b
      rw [List.flatMap_cons]
      by_cases hb : b < 8
      · rw [List.getD_append _ _ _ _ (by simpa using hb), bytes8_getD a hb, Nat.div_eq_of_lt hb, Nat.mod_eq_of_lt hb]
        rfl
      · rw [List.getD_append_right _ _ _ _ (by simpa using Nat.le_of_not_lt hb), bytes8_length, ih]
        obtain ⟨c, rfl⟩ : ∃ c, b = c + 8 := ⟨b - 8, by omega⟩
        simp [Nat.add_div_right c (show 0 < 8 by omega)]
  exact gen A.toList b

@[simp] theorem stateBytes_length (A : Lanes) : (stateBytes A).length = 200 := by
  have gen : ∀ l : List Word, (l.flatMap bytes8).length = 8 * l.length := by
    intro l
    induction l with
    | nil => rfl
    | cons a l ih => simp [List.flatMap_cons, ih]; ring
  rw [stateBytes, gen, Vector.length_toList]

end Sys2Proof.Machine
end

