-- ==== Sys2Proof/Laws/Memory.lean ====
section
/-! SUPPORT. The message memory: read after write, and the canonical form every operation keeps. -/

namespace Sys2Proof.Machine

/-- Read after write (R51, R57). -/
theorem Memory.lookup_store (m : List Host.Cell) (a : Nat) (v : Byte) (x : Nat) :
    Memory.lookup (Memory.store m a v) x = if x = a then some v else Memory.lookup m x := by
  induction m with
  | nil => simp [Memory.store, Memory.lookup]
  | cons c m ih =>
    obtain ⟨b, w⟩ := c
    simp only [Memory.store]
    split
    · simp [Memory.lookup]
    · split
      · subst_vars
        by_cases hx : x = b <;> simp [Memory.lookup, hx]
      · simp only [Memory.lookup, ih]
        by_cases hx : x = b
        · simp [hx]
          omega
        · simp [hx]

theorem Memory.lookup_storeBytes (m : List Host.Cell) (a : Nat) (vs : List Byte) (x : Nat) :
    Memory.lookup (Memory.storeBytes m a vs) x =
      if a ≤ x ∧ x < a + vs.length then some (vs.getD (x - a) 0) else Memory.lookup m x := by
  induction vs generalizing m a with
  | nil => simp [Memory.storeBytes]
  | cons v vs ih =>
    rw [Memory.storeBytes, ih, Memory.lookup_store, List.length_cons]
    by_cases h1 : x = a
    · subst h1; simp
    · by_cases h2 : a + 1 ≤ x ∧ x < a + 1 + vs.length
      · obtain ⟨d, rfl⟩ : ∃ d, x = a + 1 + d := ⟨x - (a + 1), by omega⟩
        rw [if_pos h2, if_pos (by omega), show a + 1 + d - a = d + 1 by omega, show a + 1 + d - (a + 1) = d by omega,
          List.getD_cons_succ]
      · rw [if_neg h2, if_neg h1, if_neg (by omega)]

theorem Memory.wf_cons {a : Nat} {v : Byte} {m : List Host.Cell} :
    Memory.wf ((a, v) :: m) = true ↔ (∀ c ∈ m.head?, a < c.1) ∧ Memory.wf m = true := by
  cases m with
  | nil => simp [Memory.wf]
  | cons c m => simp [Memory.wf]

theorem Memory.head?_store (m : List Host.Cell) (a : Nat) (v : Byte) :
    ∀ c ∈ (Memory.store m a v).head?, c.1 = a ∨ c ∈ m.head? := by
  cases m with
  | nil => simp [Memory.store]
  | cons c m =>
    simp only [Memory.store]
    split
    · simp
    · split <;> simp

/-- A write keeps the canonical form. -/
theorem Memory.wf_store {m : List Host.Cell} (h : Memory.wf m = true) (a : Nat) (v : Byte) :
    Memory.wf (Memory.store m a v) = true := by
  induction m with
  | nil => rfl
  | cons c m ih =>
    obtain ⟨b, w⟩ := c
    obtain ⟨hb, hm⟩ := Memory.wf_cons.mp h
    simp only [Memory.store]
    split
    · exact Memory.wf_cons.mpr ⟨by simpa using ‹a < b›, h⟩
    · split
      · subst_vars
        exact Memory.wf_cons.mpr ⟨hb, hm⟩
      · refine Memory.wf_cons.mpr ⟨fun c hc => ?_, ih hm⟩
        rcases Memory.head?_store m a v c hc with h1 | h1
        · omega
        · exact hb c h1

theorem Memory.wf_storeBytes {m : List Host.Cell} (h : Memory.wf m = true) (a : Nat) (vs : List Byte) :
    Memory.wf (Memory.storeBytes m a vs) = true := by
  induction vs generalizing m a with
  | nil => exact h
  | cons v vs ih => exact ih (Memory.wf_store h a v) (a + 1)

theorem Memory.mem_store {m : List Host.Cell} {a : Nat} {v : Byte} {c : Host.Cell} (h : c ∈ Memory.store m a v) :
    c.1 = a ∨ c ∈ m := by
  induction m with
  | nil => simp_all [Memory.store]
  | cons d m ih =>
    obtain ⟨b, w⟩ := d
    simp only [Memory.store] at h
    split at h
    · rcases List.mem_cons.mp h with h1 | h1
      · exact .inl (by rw [h1])
      · exact .inr h1
    · split at h
      · rcases List.mem_cons.mp h with h1 | h1
        · exact .inl (by rw [h1])
        · exact .inr (List.mem_cons_of_mem _ h1)
      · rcases List.mem_cons.mp h with h1 | h1
        · exact .inr (by simp [h1])
        · rcases ih h1 with h2 | h2
          · exact .inl h2
          · exact .inr (List.mem_cons_of_mem _ h2)

/-- A write lists no address but the one it writes. -/
theorem Memory.mem_storeBytes {m : List Host.Cell} {a : Nat} {vs : List Byte} {c : Host.Cell}
    (h : c ∈ Memory.storeBytes m a vs) : (a ≤ c.1 ∧ c.1 < a + vs.length) ∨ c ∈ m := by
  induction vs generalizing m a with
  | nil => exact .inr h
  | cons v vs ih =>
    rcases ih h with h1 | h1
    · exact .inl ⟨by omega, by simp only [List.length_cons]; omega⟩
    · rcases Memory.mem_store h1 with h2 | h2
      · exact .inl ⟨by omega, by simp only [List.length_cons]; omega⟩
      · exact .inr h2

/-- In canonical form, equal reads mean equal memories. -/
theorem Memory.ext {m n : List Host.Cell} (hm : Memory.wf m = true) (hn : Memory.wf n = true)
    (h : ∀ a, Memory.lookup m a = Memory.lookup n a) : m = n := by
  have small : ∀ {m : List Host.Cell} {a : Nat}, Memory.wf m = true → (∀ c ∈ m.head?, a < c.1) →
      ∀ x ≤ a, Memory.lookup m x = none := by
    intro m
    induction m with
    | nil => intros; rfl
    | cons c m ih =>
      obtain ⟨b, w⟩ := c
      intro a hw hh x hx
      obtain ⟨h1, h2⟩ := Memory.wf_cons.mp hw
      have hab : a < b := by simpa using hh
      simp only [Memory.lookup]
      rw [if_neg (by omega)]
      exact ih h2 h1 x (by omega)
  induction m generalizing n with
  | nil =>
    cases n with
    | nil => rfl
    | cons d n => have := h d.1; simp [Memory.lookup] at this
  | cons c m ih =>
    obtain ⟨a, v⟩ := c
    obtain ⟨h1, h2⟩ := Memory.wf_cons.mp hm
    cases n with
    | nil => have := h a; simp [Memory.lookup] at this
    | cons d n =>
      obtain ⟨b, w⟩ := d
      obtain ⟨h3, h4⟩ := Memory.wf_cons.mp hn
      have ha := h a
      have hb := h b
      simp only [Memory.lookup, if_true] at ha hb
      have hab : a = b := by
        by_contra hne
        rw [if_neg hne] at ha
        rw [if_neg (Ne.symm hne)] at hb
        rcases Nat.lt_or_gt_of_ne hne with hlt | hlt
        · rw [small h4 h3 a (by omega)] at ha; simp at ha
        · rw [small h2 h1 b (by omega)] at hb; simp at hb
      subst hab
      simp only [if_true, Option.some.injEq] at ha
      subst ha
      congr 1
      refine ih h2 h4 fun x => ?_
      by_cases hx : x = a
      · subst hx; rw [small h2 h1 x le_rfl, small h4 h3 x le_rfl]
      · have := h x; simpa [Memory.lookup, hx] using this

/-- `MSG[x]` after a host write of `vs` at `a` (R57). -/
theorem State.msgByte_store (s : State) (a : Nat) (vs : List Byte) (x : Nat) :
    ({ s with msg := Memory.storeBytes s.msg a vs } : State).msgByte x =
      if a ≤ x ∧ x < a + vs.length then vs.getD (x - a) 0 else s.msgByte x := by
  simp only [State.msgByte, Memory.lookup_storeBytes]
  split <;> simp

/-- The memory right after reset is in canonical form. -/
theorem State.reset_msg_wf : Memory.wf State.reset.msg = true := rfl

end Sys2Proof.Machine
end

