-- ==== Sys2Proof/Laws/Engine.lean ====
section
/-! SUPPORT. The engine: what one step does in each phase, what no step touches, and how runs compose. -/

namespace Sys2Proof.Machine

/-! ### The permutation in the engine -/

/-- The engine's rounds are the rounds of `KeccakP` with the running index (R113). -/
theorem State.rounds_spec (n : Nat) (s : State) :
    (State.rounds n s).lanes = (List.range' s.rnd n).foldl keccakRound s.lanes ∧ (State.rounds n s).rnd = s.rnd + n := by
  induction n generalizing s with
  | zero => exact ⟨rfl, rfl⟩
  | succ n ih =>
    obtain ⟨h1, h2⟩ := ih s.roundStep
    refine ⟨?_, ?_⟩
    · rw [State.rounds, h1, List.range'_succ]; rfl
    · rw [State.rounds, h2, State.roundStep_rnd]; omega

theorem keccakP_eq_foldl_range' (A : Lanes) (n : Nat) : (List.range' 0 n).foldl keccakRound A = keccakP A n := by
  induction n with
  | zero => rfl
  | succ n ih => rw [List.range'_concat, List.foldl_append, ih]; simp [keccakP]

/-- `S <- KeccakP(S, NRL)` (R113, R132). -/
@[simp] theorem State.permutation_lanes (s : State) : s.permutation.lanes = keccakP s.lanes s.nrl := by
  rw [State.permutation, (State.rounds_spec s.nrl { s with rnd := 0 }).1]
  exact keccakP_eq_foldl_range' s.lanes s.nrl

@[simp] theorem State.permutation_rnd (s : State) : s.permutation.rnd = s.nrl := by
  rw [State.permutation, (State.rounds_spec s.nrl { s with rnd := 0 }).2]; simp

/-! ### One step by phase -/

theorem State.advance_not_busy {s : State} (h : s.busy = false) : s.advance = s := by simp [State.advance, h]

theorem State.advance_perm {s : State} (h : s.busy = true) (p : s.phase = .perm) : s.advance = s.permStep := by
  simp [State.advance, h, p]

theorem State.advance_init {s : State} (h : s.busy = true) (p : s.phase = .init) : s.advance = s.initStep := by
  simp [State.advance, h, p]

theorem State.advance_absorb_full {s : State} (h : s.busy = true) (p : s.phase = .absorb) (r : s.rsiz ≤ s.rem) :
    s.advance = s.absorbFull := by
  simp [State.advance, h, p, State.absorbStep, r]

theorem State.advance_absorb_tail {s : State} (h : s.busy = true) (p : s.phase = .absorb) (r : s.rem < s.rsiz) :
    s.advance = { s with phase := .pad } := by
  simp [State.advance, h, p, State.absorbStep, Nat.not_le.mpr r]

theorem State.advance_pad {s : State} (h : s.busy = true) (p : s.phase = .pad) :
    s.advance = { s.padStep with phase := .final } := by
  simp [State.advance, h, p]

theorem State.advance_final {s : State} (h : s.busy = true) (p : s.phase = .final) :
    s.advance = { s.absorbFinal with phase := .squeeze } := by
  simp [State.advance, h, p]

theorem State.advance_squeeze {s : State} (h : s.busy = true) (p : s.phase = .squeeze) :
    s.advance = { s.squeezeStep with phase := .next } := by
  simp [State.advance, h, p]

theorem State.advance_next {s : State} (h : s.busy = true) (p : s.phase = .next) : s.advance = s.nextStep := by
  simp [State.advance, h, p]

/-! ### The passes of a hash command -/

theorem rehash_zero (m : Nat) (r : List Byte × Lanes) : rehash m 0 r = r := rfl

theorem rehash_succ (m n : Nat) (r : List Byte × Lanes) : rehash m (n + 1) r = rehash m n (sponge r.1 m) := rfl

theorem hashIter_one (M : List Byte) (m : Nat) : hashIter M m 1 = sponge M m := rfl

/-- Two passes or more: the first over the message, the others over digests (R161). -/
theorem hashIter_succ (M : List Byte) (m k : Nat) (h : 1 ≤ k) : hashIter M m (k + 1) = hashIter (sponge M m).1 m k := by
  obtain ⟨n, rfl⟩ : ∃ n, k = n + 1 := ⟨k - 1, by omega⟩
  rw [hashIter, hashIter, Nat.add_sub_cancel, Nat.add_sub_cancel, rehash_succ]

theorem sponge_digest (M : List Byte) (m : Nat) : (sponge M m).1 = squeeze (sponge M m).2 m := rfl

theorem sponge_digest_length (M : List Byte) {m : Nat} (h : m ≤ 200) : (sponge M m).1.length = m := by
  simp [sponge, squeeze, h]

/-! ### Runs -/

@[simp] theorem State.run_zero (s : State) : State.run 0 s = s := rfl

theorem State.run_succ (n : Nat) (s : State) : State.run (n + 1) s = State.run n s.advance := rfl

theorem State.run_add (m n : Nat) (s : State) : State.run (m + n) s = State.run n (State.run m s) := by
  induction m generalizing s with
  | zero => simp
  | succ m ih => rw [Nat.succ_add, State.run_succ, ih, State.run_succ]

theorem State.run_not_busy {s : State} (h : s.busy = false) (n : Nat) : State.run n s = s := by
  induction n with
  | zero => rfl
  | succ n ih => rw [State.run_succ, State.advance_not_busy h, ih]

theorem State.finish_not_busy {s : State} (h : s.busy = false) : s.finish = s := State.run_not_busy h _

/-! ### What no step of the engine touches -/

theorem OperandsKept.refl (s : State) : OperandsKept s s := ⟨rfl, rfl, rfl, rfl, rfl, rfl, rfl, rfl⟩

theorem OperandsKept.trans {s t u : State} (h : OperandsKept s t) (k : OperandsKept t u) : OperandsKept s u :=
  ⟨k.msg.trans h.msg, k.cmd.trans h.cmd, k.inAddr.trans h.inAddr, k.inLen.trans h.inLen, k.msgSize.trans h.msgSize,
    k.resets.trans h.resets, k.events.trans h.events, k.answer.trans h.answer⟩

theorem OperandsKept.msgByte {s t : State} (h : OperandsKept s t) (a : Nat) : t.msgByte a = s.msgByte a := by
  simp [State.msgByte, h.msg, h.resets]

theorem OperandsKept.windowFits {s t : State} (h : OperandsKept s t) : t.windowFits = s.windowFits := by
  simp [State.windowFits, h.inAddr, h.inLen, h.msgSize]

/-- One step of the engine keeps the operands, the message memory and the model's own fields. -/
theorem State.advance_kept (s : State) : OperandsKept s s.advance := by
  unfold State.advance
  split
  · split
    · exact .refl s
    · unfold State.permStep
      split <;> constructor <;> simp
    · constructor <;> simp [State.initStep]
    · unfold State.absorbStep
      split
      · constructor <;> simp [State.absorbFull]
      · constructor <;> rfl
    · constructor <;> simp
    · constructor <;> simp [State.absorbFinal]
    · constructor <;> simp
    · unfold State.nextStep
      split <;> constructor <;> simp
  · exact .refl s

theorem State.run_kept (n : Nat) (s : State) : OperandsKept s (State.run n s) := by
  induction n generalizing s with
  | zero => exact .refl s
  | succ n ih => exact s.advance_kept.trans (ih s.advance)

theorem State.finish_kept (s : State) : OperandsKept s s.finish := State.run_kept _ s

/-- The engine neither sees nor changes the event list and the answer. -/
theorem State.advance_outer (s : State) (es : List Event) (a : Option Answer) :
    ({ s with events := es, answer := a } : State).advance = { s.advance with events := es, answer := a } := by
  have hr : ∀ (n : Nat) (u : State), State.rounds n { u with events := es, answer := a } =
      { State.rounds n u with events := es, answer := a } := by
    intro n
    induction n with
    | zero => intro u; rfl
    | succ n ih => intro u; exact ih u.roundStep
  have hp : ∀ u : State, ({ u with events := es, answer := a } : State).permutation =
      { u.permutation with events := es, answer := a } := fun u => hr u.nrl { u with rnd := 0 }
  unfold State.advance
  simp only
  split
  · split
    · rfl
    · simp only [State.permStep]
      split <;> rfl
    · rfl
    · simp only [State.absorbStep]
      split
      · have := hp s.xorInput
        simp only [State.absorbFull, State.xorInput, State.nextBlock] at this ⊢
        exact congrArg State.nextBlock this
      · rfl
    · rfl
    · have := hp s.xorBlk
      exact congrArg (fun u : State => { u with phase := .squeeze }) this
    · rfl
    · simp only [State.nextStep]
      split <;> rfl
  · rfl

theorem State.run_outer (n : Nat) (s : State) (es : List Event) (a : Option Answer) :
    State.run n { s with events := es, answer := a } = { State.run n s with events := es, answer := a } := by
  induction n generalizing s with
  | zero => rfl
  | succ n ih => rw [State.run_succ, State.advance_outer, ih, State.run_succ]

end Sys2Proof.Machine
end

