-- ==== Sys2Proof/Laws/HostPort.lean ====
section
/-! SUPPORT. The host port: what a step with a given next event is, and the commands as starts run to completion. -/

namespace Sys2Proof.Machine

/-! ### The step by its next event -/

theorem step_no_event {s : State} (h : s.events = []) : step s = .next s.advance := by
  simp [step, stepOnce, h]

theorem step_event {s : State} {e : Event} {rest : List Event} (h : s.events = e :: rest) :
    step s = takeEvent e { s with events := rest } := by
  simp [step, stepOnce, h]

theorem step_withHost (s : State) (t : Transaction) (wait : Bool) (rest : List Event) :
    step (s.withHost t wait rest) = hostTurn t wait { s with events := rest } := rfl

theorem step_withIssue (s : State) (w : Word) (wait : Bool) (rest : List Event) :
    step (s.withIssue w wait rest) = hostTurn (.write .reg 0x000 8 w) wait { s with events := rest } := rfl

/-- A transaction that is refused or is no write of `CMD`. -/
theorem hostTurn_plain {t : Transaction} {s : State} (h : s.allows t = false ∨ t.cmdWord = none) (wait : Bool) :
    hostTurn t wait s = .next (if wait then (s.respond t).finish else s.respond t) := by
  unfold hostTurn
  rcases h with h | h
  · rw [h]
  · rw [h]; cases s.allows t <;> rfl

/-- An allowed write of `CMD` (R71): the latched state, then decode, check and run. -/
theorem hostTurn_issue {s : State} (h : s.busy = false) (w : Word) (wait : Bool) :
    hostTurn (.write .reg 0x000 8 w) wait s = issue w wait ((s.latch w).withAnswer .ok) := by
  have ha : s.allows (.write .reg 0x000 8 w) = true := by
    simp [State.allows, h, State.spaceAllows, regAccess, regAt, Reg.writable]
  have hr : s.respond (.write .reg 0x000 8 w) = (s.latch w).withAnswer .ok := by
    simp [State.respond, ha, State.perform, regAt, State.writeReg]
  unfold hostTurn
  rw [ha, hr]
  rfl

theorem respond_refused {s : State} {t : Transaction} (h : s.allows t = false) : s.respond t = s.withAnswer .error := by
  simp [State.respond, h]

theorem respond_allowed {s : State} {t : Transaction} (h : s.allows t = true) : s.respond t = s.perform t := by
  simp [State.respond, h]

/-! ### The commands -/

/-- Every command is its start, run to its completion. -/
theorem exec_eq_start (i : Instr) (s : State) : exec i s = .next (startCommand i s).finish := by
  cases i <;> rfl

/-- A refused command records its error. -/
theorem startCommand_refused {i : Instr} {s : State} {e : CmdError} (h : refusalOf i s = some e) :
    startCommand i s = s.recordError e := by
  cases i <;> simp_all [startCommand, refusalOf, beginPermute, beginHash, beginHashi, beginSum224, beginSum256,
    beginSum384, beginSum512, State.hashCommand]

/-- A hash command whose checks pass starts with its digest length and pass count. -/
theorem startCommand_hash {i : Instr} {s : State} {m k : Nat} (h : hashOperands i = some (m, k))
    (r : refusalOf i s = none) : startCommand i s = s.startHash (BitVec.ofNat 8 i.opcode) m k := by
  cases i <;> simp_all [startCommand, refusalOf, beginHash, beginHashi, beginSum224, beginSum256,
    beginSum384, beginSum512, State.hashCommand, hashOperands, Instr.opcode]

theorem startCommand_permute {nr : Nat} (s : State) (h : nr ≤ 24) : startCommand (.permute nr) s = s.startPermute nr := by
  simp [startCommand, beginPermute, permuteCheck, h]

/-- The checks of a hash command, all passed (R182, R185, R183). -/
theorem hashCheck_none {s : State} {m k : Nat} :
    s.hashCheck m k = none ↔ legalMdlen m = true ∧ k ≠ 0 ∧ s.windowFits = true := by
  unfold State.hashCheck
  split
  · simp_all
  · split
    · simp_all
    · split <;> simp_all

theorem refusalOf_hash {i : Instr} {s : State} {m k : Nat} (h : hashOperands i = some (m, k)) :
    refusalOf i s = s.hashCheck m k := by
  cases i <;> simp_all [hashOperands, refusalOf]

end Sys2Proof.Machine
end

