-- ==== Sys2Proof/Laws/PerInstr.lean ====
section
/-! SUPPORT. What is proved of each command as syntax: its word holds its opcode number in the field `OP` (30_encoding.md
rules R72 to R79). -/

namespace Sys2Proof.Laws.OpcodeField

/-- The word of a command carries its opcode, whatever its operands. -/
def Statement (i : Instr) : Prop := opField (encode i) = i.opcode

/-- The low byte of a command word is its `OP`, whatever stands in the other fields. -/
theorem opField_commandWord {op : Nat} (h : op < 2 ^ 8) (mdlen nr rsv iter : Nat) :
    opField (commandWord op mdlen nr rsv iter) = op := by
  simp only [opField, bitField, commandWord, BitVec.toNat_ofNat, Nat.shiftRight_zero]
  omega

theorem permute (nr : Nat) : Statement (.permute nr) := opField_commandWord (by decide) _ _ _ _
theorem hash (mdlen : Nat) : Statement (.hash mdlen) := opField_commandWord (by decide) _ _ _ _
theorem hashi (mdlen k : Nat) : Statement (.hashi mdlen k) := opField_commandWord (by decide) _ _ _ _
theorem sum224 : Statement .sum224 := opField_commandWord (by decide) _ _ _ _
theorem sum256 : Statement .sum256 := opField_commandWord (by decide) _ _ _ _
theorem sum384 : Statement .sum384 := opField_commandWord (by decide) _ _ _ _
theorem sum512 : Statement .sum512 := opField_commandWord (by decide) _ _ _ _

end Sys2Proof.Laws.OpcodeField
end

