-- ==== Sys2Proof/Tests/Slice0.lean ====
section
/-! SUPPORT. The model's own tests. Every expected value is the spec's (95_test_vectors.md, the id of the vector in the
comment). The last part shows, for each statement with hypotheses, operands that meet them. -/

namespace Sys2Proof.Tests

open Sys2Proof Sys2Proof.Machine

/-! ### Well-formedness: each check refuses a term -/

theorem test_wf_refuses_wide_nr : (Instr.permute 256).wellFormed = false := by decide
theorem test_wf_refuses_wide_mdlen : (Instr.hash 256).wellFormed = false ∧ (Instr.hashi 256 1).wellFormed = false := by decide
theorem test_wf_refuses_wide_iter : (Instr.hashi 32 (2 ^ 32)).wellFormed = false := by decide
theorem test_wf_accepts_largest_operands :
    (Instr.permute 255).wellFormed = true ∧ (Instr.hash 255).wellFormed = true ∧
    (Instr.hashi 255 (2 ^ 32 - 1)).wellFormed = true ∧ Instr.sum224.wellFormed = true ∧ Instr.sum256.wellFormed = true ∧
    Instr.sum384.wellFormed = true ∧ Instr.sum512.wellFormed = true := by decide

/-! ### Decoding: words written out in 30_encoding.md rules R73 to R79 and in the EN rows of section 2.12 -/

/-- R73, EN1; EN4 is the same word with `RSV` not zero, EN2 with `MDLEN` not zero. -/
theorem test_decode_permute :
    decode 0x0000000000180001 = .ok (.permute 24) ∧ decode 0x0000000000000001 = .ok (.permute 0) ∧
    decode 0x0000000001180001 = .error .unusedField ∧ decode 0x0000000000181C01 = .error .unusedField := by decide

/-- R74, EN6 to EN9, EN13; EN14 and EN15 are illegal. -/
theorem test_decode_hash :
    decode 0x0000000000001C02 = .ok (.hash 28) ∧ decode 0x0000000000004002 = .ok (.hash 64) ∧
    decode 0x000000000000FF02 = .ok (.hash 255) ∧ decode 0x0000000000012002 = .error .unusedField ∧
    decode 0x0000000100002002 = .error .unusedField := by decide

/-- R75, EN17, EN19 and the word of the most passes; EN21 is illegal. -/
theorem test_decode_hashi :
    decode 0x0000000300002003 = .ok (.hashi 32 3) ∧ decode 0x0000000000002003 = .ok (.hashi 32 0) ∧
    decode 0xFFFFFFFF00002003 = .ok (.hashi 32 0xFFFFFFFF) ∧ decode 0x0000000300012003 = .error .unusedField := by decide

/-- R76 to R79, EN22 to EN27. -/
theorem test_decode_sum :
    decode 0x0000000000000004 = .ok .sum224 ∧ decode 0x0000000000000005 = .ok .sum256 ∧
    decode 0x0000000000000006 = .ok .sum384 ∧ decode 0x0000000000000007 = .ok .sum512 ∧
    decode 0x0000000000002005 = .error .unusedField ∧ decode 0x0000000100000005 = .error .unusedField := by decide

/-- R81, EN28 to EN31. -/
theorem test_decode_reserved :
    decode 0x0000000000000000 = .error .reservedOpcode ∧ decode 0x0000000000000008 = .error .reservedOpcode ∧
    decode 0x00000000000000FF = .error .reservedOpcode ∧ decode 0xFFFFFFFFFFFFFFFF = .error .reservedOpcode := by decide

/-! ### The permutation's steps -/

/-- RP1: every lane 1; lanes 1, 9, 20, 24 of the output. -/
theorem test_rhoPi_rotates :
    [1, 9, 20, 24].map (lane (rhoPi (Vector.replicate 25 1))) =
      [0x0000100000000000, 0x2000000000000000, 0x4000000000000000, 0x0000000000000004] := by decide

/-- RP2: lane `i` holds bit `i` alone; lanes 0, 1, 10, 24 of the output. -/
theorem test_rhoPi_moves_lanes :
    [0, 1, 10, 24].map (lane (rhoPi (tabulate 25 fun i => 1#64 <<< i))) =
      [0x0000000000000001, 0x0004000000000000, 0x0000000000000004, 0x0000000000800000] := by decide

/-- The input of CH1. -/
def rowCH1 : List Word :=
  [0xF0F0F0F0F0F0F0F0, 0xFF00FF00FF00FF00, 0xFFFF0000FFFF0000, 0x00000000FFFFFFFF, 0xAAAAAAAAAAAAAAAA]

/-- CH1, which an update in place gets wrong. -/
theorem test_chi_uses_the_old_row :
    (List.range 6).map (lane (chi (tabulate 25 fun i => rowCH1.getD i 0))) =
      [0xF00FF0F0F00FF0F0, 0xFF00FF00FF0000FF, 0x5555AAAAFFFF0000, 0x50505050AFAFAFAF, 0xA5AAA5AAA5AAA5AA, 0] := by decide

/-- IO2. -/
theorem test_iota_last_round : lane (iota (zeroLanes.set 0 (BitVec.allOnes 64)) 23) 0 = 0x7FFFFFFF7FFF7FF7 := by decide

/-- KP2, lanes 0, 1, 22, 24. -/
theorem test_two_rounds :
    [0, 1, 22, 24].map (lane (keccakP zeroLanes 2)) =
      [0x0000000000008083, 0x0000100000000000, 0x0000010000000004, 0x0000000000000004] := by decide +kernel

/-! ### Padding -/

/-- PAD1 and PAD3: the empty tail, and a tail one short of the rate. -/
theorem test_pad_extremes :
    padBlock [] 72 = 0x06 :: List.replicate 70 0x00 ++ [0x80] ∧
    padBlock (List.replicate 71 0x11) 72 = List.replicate 71 0x11 ++ [0x86] := by decide +kernel

/-- PAD2 and PAD4. -/
theorem test_pad_between :
    padBlock [0x61, 0x62, 0x63] 72 = [0x61, 0x62, 0x63, 0x06] ++ List.replicate 67 0x00 ++ [0x80] ∧
    padBlock (List.replicate 70 0x11) 72 = List.replicate 70 0x11 ++ [0x06, 0x80] := by decide +kernel

/-! ### Commands -/

/-- The next state of a step, if there is one. -/
def after (s : State) : Option State :=
  match step s with
  | .next t => some t
  | .fault _ => none
  | .refused _ => none

/-- What a step leaves of a state, seen through `f`. -/
def seen {α : Type} (f : State → α) (s : State) : Option α := (after s).map f

/-- After reset with the message `61 62 63` at address 0 and the window `0, 3`. -/
def abc : State := { State.reset with msg := [(0, 0x61), (1, 0x62), (2, 0x63)], inLen := 3 }

/-- After reset with a window. -/
def window (a n : Word) : State := { State.reset with inAddr := a, inLen := n }

/-- PC1: `permute 24`; lanes 0, 12 and 24 of KP24, and STATUS. -/
theorem test_permute_24 :
    seen (fun t => ([0, 12, 24].map (lane t.lanes), t.statusWord)) (State.reset.withFetchWord 64 0x0000000000180001) =
      some ([0xF1258F7940E1DDE7, 0x81A57C16DBCF555F, 0xEAF1FF7B5CECA249], 0x2) := by decide +kernel

/-- PC4: `permute 25` is refused and leaves `S`. -/
theorem test_permute_25_refused :
    seen (fun t => (lane t.lanes 0, t.statusWord))
        ({ State.reset with lanes := zeroLanes.set 0 5 }.withFetchWord 64 0x0000000000190001) =
      some (5, 0x406) := by decide +kernel

/-- EN9, H64-abc: the first and the last register of the digest. -/
theorem test_hash_64_abc :
    seen (fun t => (t.readReg (.digest 0), t.readReg (.digest 7), t.statusWord)) (abc.withFetchWord 64 0x0000000000004002) =
      some (0x8A16571A0B8551B7, 0xF053EC4E27F89265, 0x400002) := by decide +kernel

/-- BT5: the window's end is not taken modulo 2^64. -/
theorem test_hash_window_does_not_wrap :
    seen State.statusWord ((window 0xFFFFFFFFFFFFFFFF 2).withFetchWord 64 0x0000000000002002) = some 0x206 := by
  decide +kernel

/-- I32-2: two passes. -/
theorem test_hashi_two_passes :
    seen (fun t => (t.readReg (.digest 0), t.readReg (.digest 3), t.readReg (.digest 4)))
        (abc.withFetchWord 64 0x0000000200002003) =
      some (0x0FA6B89FBB2C36F6, 0xBC2C49B43597696F, 0) := by decide +kernel

/-- EN19 and EN20: no passes; a bad digest length is reported first. -/
theorem test_hashi_refusals :
    seen State.statusWord (abc.withFetchWord 64 0x0000000000002003) = some 0x306 ∧
    seen State.statusWord (abc.withFetchWord 64 0x0000000000001403) = some 0x106 := by decide +kernel

/-- EN22, SP3: the final state and the four digest bytes of lane 3. -/
theorem test_sum224_abc :
    seen (fun t => (lane t.lanes 3, t.readReg (.digest 3), t.statusWord)) (abc.withFetchWord 64 0x0000000000000004) =
      some (0x64BC8CB8DF6FB473, 0x00000000DF6FB473, 0x1C0002) := by decide +kernel

/-- EN23, SP1: the final state and STATUS. -/
theorem test_sum256_abc :
    seen (fun t => (lane t.lanes 0, lane t.lanes 24, t.statusWord)) (abc.withFetchWord 64 0x0000000000000005) =
      some (0xB225E24FA75D983A, 0xB5D89C9E96E91041, 0x200002) := by decide +kernel

/-- EN26: `MDLEN` written where `SUM256` has no operand. -/
theorem test_sum256_unused_field : seen State.statusWord (abc.withFetchWord 64 0x0000000000002005) = some 0x506 := by
  decide +kernel

/-- EN24, H48-abc: the first and the last lane of the digest. -/
theorem test_sum384_abc :
    seen (fun t => (t.readReg (.digest 0), t.readReg (.digest 5), t.statusWord)) (abc.withFetchWord 64 0x0000000000000006) =
      some (0xC96F5188824901EC, 0x256D3728F2EDF139, 0x300002) := by decide +kernel

/-- H64-0: the empty message. -/
theorem test_sum512_empty :
    seen (fun t => (t.readReg (.digest 0), t.readReg (.digest 7), t.statusWord))
        (State.reset.withFetchWord 64 0x0000000000000007) =
      some (0xC59A3AA2CC739FA6, 0x26CD1D2886857501, 0x400002) := by decide +kernel

/-- PR4 on `SUM512`: a window of 4097 bytes. -/
theorem test_sum512_buffer_too_small :
    seen State.statusWord ((window 0 4097).withFetchWord 64 0x0000000000000007) = some 0x206 := by decide +kernel

/-! ### Host accesses (section 2.13) -/

/-- R85, R86: `sum256` is `wr CMD, 0x5`; `wmsg 0, "abc"` leaves the three bytes. -/
theorem test_host_program_abbreviations :
    command .sum256 = .write .reg 0x000 8 0x0000000000000005 ∧
    ((wmsg 0 [0x61, 0x62, 0x63]).foldl State.respond State.reset).msg = [(0, 0x61), (1, 0x62), (2, 0x63)] := by
  decide +kernel

/-- The answer to one transaction after reset. -/
def answerTo (s : State) (t : Transaction) : Option Answer := (s.respond t).answer

/-- HA1 to HA13 and offset `0x200`: the mapped registers answer 0, everything else `ERROR`. -/
theorem test_register_reads :
    [0x008, 0x040, 0x078, 0x100, 0x1C0].map (fun a => answerTo State.reset (.read .reg a 8)) =
      List.replicate 5 (some (.value 0)) ∧
    [0x00C, 0x020, 0x038, 0x080, 0x0F8, 0x1C8, 0x1F8, 0x200].map (fun a => answerTo State.reset (.read .reg a 8)) =
      List.replicate 8 (some .error) ∧
    answerTo State.reset (.read .reg 0x008 4) = some .error := by decide +kernel

/-- HA14 to HA17. -/
theorem test_register_writes :
    State.reset.respond (.write .reg 0x008 8 0) = State.reset.withAnswer .error ∧
    State.reset.respond (.write .reg 0x040 8 0x55) = State.reset.withAnswer .error ∧
    lane (State.reset.respond (.write .reg 0x100 8 0x1122334455667788)).lanes 0 = 0x1122334455667788 ∧
    (State.reset.respond (.write .reg 0x010 8 0xFFFFFFFFFFFFFFFF)).inAddr = 0xFFFFFFFFFFFFFFFF := by decide +kernel

/-- The state after HA18 and HA23 and HA24. -/
def written : State :=
  ((State.reset.respond (.write .msg 1 4 0x44332211)).respond (.write .msg 4088 8 0x0807060504030201)).respond
    (.write .msg 4095 1 0xAA)

/-- HA19, HA20, HA21, HA27. -/
theorem test_message_reads :
    answerTo written (.read .msg 1 1) = some (.value 0x11) ∧ answerTo written (.read .msg 2 2) = some (.value 0x3322) ∧
    answerTo written (.read .msg 1 4) = some (.value 0x44332211) ∧
    answerTo written (.read .msg 4092 4) = some (.value 0xAA070605) := by decide +kernel

/-- HA22, HA25, HA26. -/
theorem test_message_refusals :
    written.respond (.write .msg 3 3 0) = written.withAnswer .error ∧
    written.respond (.write .msg 4095 2 0) = written.withAnswer .error ∧
    written.respond (.write .msg 4096 1 0) = written.withAnswer .error := by decide +kernel

/-! ### Operands that meet the hypotheses of the statements -/

/-- A `PERMUTE 24` just started. -/
def busyPermute : State := State.reset.startPermute 24

/-- A `HASHI 64, 2` just started. -/
def busyHash : State := State.reset.startHash 0x03 64 2

/-- The same, its first pass initialised over the window of `abc`. -/
def busyAbsorb : State := (abc.startHash 0x03 64 2).advance

theorem digByte_zeros (s : State) (h : s.dig = Vector.replicate 64 0) (b : Nat) : s.digByte b = 0 := by
  by_cases hb : b < 64
  · rw [State.digByte_eq_getElem s hb]; simp [h]
  · exact State.digByte_ge s (by omega)

theorem test_inv_busyPermute : Inv busyPermute ∧ busyPermute.busy = true ∧ busyPermute.phase.isHash = false where
  left := {
    memory := ⟨by decide, by decide, by decide⟩
    status := ⟨by decide, by decide, by decide, by decide, by decide⟩
    sequencer := ⟨by decide, by decide, fun h => absurd h (by decide)⟩
    digest := fun _ b _ => digByte_zeros _ rfl b }
  right := by decide

theorem test_inv_busyHash : Inv busyHash ∧ busyHash.busy = true ∧ busyHash.phase.isHash = true where
  left := {
    memory := ⟨by decide, by decide, by decide⟩
    status := ⟨by decide, by decide, by decide, by decide, by decide⟩
    sequencer := ⟨by decide, by decide, fun _ => {
      mdl := by decide
      passes := by decide
      rounds := rfl
      window := by decide
      dlen := rfl
      digTail := fun b _ => digByte_zeros _ rfl b
      first := by decide
      rates := by decide
      fromMsg := by decide
      fromDig := by decide
      tail := by decide }⟩
    digest := fun h => absurd h (by decide) }
  right := by decide

/-- DecodeOfEncodedCommand, EncodeOfDecodedWord, IllegalWordsRaiseInvalidCommand, FieldsOfOperandCommands. -/
theorem test_meets_encoding_hypotheses :
    (Instr.hashi 255 (2 ^ 32 - 1)).wellFormed = true ∧ decode 0x0000000000190001 = .ok (.permute 25) ∧
    decode 0x0000000000000008 = .error .reservedOpcode ∧ decode 0x0000000100002002 = .error .unusedField ∧
    255 < 2 ^ 8 ∧ 2 ^ 32 - 1 < 2 ^ 32 := by decide

/-- OpcodeMapByMaskAndMatch: words of the first, the third and the last row, and a word of none. -/
theorem test_meets_mask_hypotheses :
    0x0000000000FF0001#64 &&& 0xFFFFFFFFFF00FFFF = 0x0000000000000001 ∧
    0xFFFFFFFF00002003#64 &&& 0x00000000FFFF00FF = 0x0000000000000003 ∧
    0x0000000000000007#64 &&& 0xFFFFFFFFFFFFFFFF = 0x0000000000000007 ∧
    ∀ r ∈ opcodeRows, 0x0000000000000008#64 &&& r.1 ≠ r.2 :=
  ⟨by decide, by decide, by decide, by simp [opcodeRows]⟩

/-- RotationMovesEachBit at both ends of its range, and its second clause. -/
theorem test_meets_rotation_hypotheses :
    (1 ≤ 1 ∧ 1 ≤ 63 ∧ 63 < 64 ∧ (rotl64 0x8000000000000000 1).getLsbD ((63 + 1) % 64) = true) ∧
    (1 ≤ 63 ∧ 63 ≤ 63 ∧ 0 < 64 ∧ (rotl64 0x0000000000000001 63).getLsbD ((0 + 63) % 64) = true) ∧
    62 ∈ rotationOffsets := by decide

/-- ConstantTablesMeetTheirFormulas, ThetaAddsTwoColumnParities, RhoPiEqualsItsClosedForm, ChiWorksRowByRow,
IotaChangesOnlyLaneZero, ResetState, ResetInputFromAnyState: the last index of each range, and members of the tables. -/
theorem test_meets_index_hypotheses :
    23 < 24 ∧ 4 < 5 ∧ 24 < 25 ∧ 63 < 64 ∧ 1 ≤ 24 ∧ 24 ≤ 24 ∧ 0x8000000080008008 ∈ roundConstants ∧ (24, 21, 2) ∈ rhoPiMoves := by
  decide

/-- ChiWorksRowByRow, the clauses on a constant row and on two states with one equal row. -/
theorem test_meets_chi_hypotheses :
    (4 < 5 ∧ (BitVec.allOnes 64 : Word) = BitVec.allOnes 64 ∧
      ∀ x < 5, lane (Vector.replicate 25 (BitVec.allOnes 64)) (5 * 4 + x) = BitVec.allOnes 64) ∧
    (0 < 5 ∧ ∀ x < 5, lane zeroLanes (5 * 0 + x) = lane (zeroLanes.set 5 1) (5 * 0 + x)) ∧
    zeroLanes ≠ zeroLanes.set 5 1 := by decide

/-- RateOfEachDigestLength, HashResult, HashiResult, SumResults: each digest length, the largest pass count, the empty
window at the very end (BT1) and the whole of `MSG`. -/
theorem test_meets_hash_hypotheses :
    legalMdlen 28 = true ∧ legalMdlen 32 = true ∧ legalMdlen 48 = true ∧ legalMdlen 64 = true ∧ 1 ≤ 2 ^ 32 - 1 ∧
    (window 0x1000 0).windowFits = true ∧ (window 0 0x1000).windowFits = true := by decide

/-- PaddedBlockBytes: a tail one short of the rate, and the empty tail. -/
theorem test_meets_padding_hypotheses :
    ((List.replicate 71 (0x11 : Byte)).length < 72 ∧ (List.replicate 71 (0x11 : Byte)).length + 1 = 72) ∧
    (([] : List Byte).length < 144 ∧ ([] : List Byte).length + 1 < 144 ∧ 0 < 142 ∧ 142 + 1 < 144) := by decide

/-- PadStepBuildsThePaddedBlock at the widest rate, with a byte of `BLK` above a narrower rate. -/
theorem test_meets_pad_step_hypotheses :
    (let s : State := { State.reset with rem := 143, rsiz := 144 }; s.rem < s.rsiz ∧ s.rsiz ≤ 144) ∧
    (let s : State := { State.reset with rem := 0, rsiz := 72 }; s.rem < s.rsiz ∧ s.rsiz ≤ 144 ∧ s.rsiz ≤ 72) := by decide

/-- SqueezeStepWritesTheDigest at the longest digest. -/
theorem test_meets_squeeze_hypotheses : busyHash.mdl = 64 ∧ busyHash.mdl ≤ 64 := by decide

/-- EnginePassComputesTheSponge. -/
theorem test_meets_pass_hypotheses :
    busyAbsorb.busy = true ∧ busyAbsorb.phase = .absorb ∧ busyAbsorb.lanes = zeroLanes ∧
    legalMdlen busyAbsorb.mdl = true ∧ busyAbsorb.rsiz = rate busyAbsorb.mdl ∧
    busyAbsorb.rsizw = rate busyAbsorb.mdl / 8 ∧ busyAbsorb.nrl = 24 := by decide +kernel

/-- PermuteResult, PermuteRefusedAboveTwentyFour, PermuteFrame: both sides of the bound. -/
theorem test_meets_permute_hypotheses :
    State.reset.busy = false ∧ State.reset.err = false ∧ 24 ≤ 24 ∧ 24 < 25 ∧
    (∃ t, exec (.permute 24) State.reset = .next t) ∧ ∃ t, exec (.permute 25) State.reset = .next t :=
  ⟨rfl, rfl, by decide, by decide, ⟨_, exec_eq_start _ _⟩, ⟨_, exec_eq_start _ _⟩⟩

/-- InvalidDigestLengthRaised: the lengths beside a legal one, and a legal one. -/
theorem test_meets_digest_length_hypotheses :
    State.reset.busy = false ∧ State.reset.err = false ∧
    ¬ (27 = 28 ∨ 27 = 32 ∨ 27 = 48 ∨ 27 = 64) ∧ ¬ (29 = 28 ∨ 29 = 32 ∨ 29 = 48 ∨ 29 = 64) ∧
    (∃ t, exec (.hash 28) State.reset = .next t) ∧ (∃ t, exec (.hashi 64 0) State.reset = .next t) ∧
    (∃ t, exec .sum224 State.reset = .next t) ∧ ∃ t, exec .sum512 State.reset = .next t :=
  ⟨rfl, rfl, by decide, by decide, ⟨_, exec_eq_start _ _⟩, ⟨_, exec_eq_start _ _⟩, ⟨_, exec_eq_start _ _⟩,
    ⟨_, exec_eq_start _ _⟩⟩

/-- InvalidIterationsRaised, BufferTooSmallRaised: BT1 and BT2 stand on the two sides of the bound. -/
theorem test_meets_buffer_hypotheses :
    (window 0x1001 0).busy = false ∧ (window 0x1001 0).err = false ∧ hashOperands .sum256 = some (32, 1) ∧
    legalMdlen 32 = true ∧ 1 ≠ 0 ∧
    (window 0x1001 0).msgSize < (window 0x1001 0).inAddr.toNat + (window 0x1001 0).inLen.toNat ∧
    (window 0x1000 0).inAddr.toNat + (window 0x1000 0).inLen.toNat ≤ (window 0x1000 0).msgSize := by decide

/-- ErrorPriorityOfHashCommands: PR1, PR2, PR4 and PR3. -/
theorem test_meets_priority_hypotheses :
    let s := window 0 4097
    s.busy = false ∧ legalMdlen 20 = false ∧ legalMdlen 32 = true ∧
    s.msgSize < s.inAddr.toNat + s.inLen.toNat ∧
    2 ≤ opField 0x0000000000012002 ∧ nrField 0x0000000000012002 ≠ 0 := by decide

/-- AcceptedCommandsComplete, CommandsKeepOperandsAndMemory, DigestIsAPrefixOfTheState, EquivalentHashCommands. -/
theorem test_meets_completion_hypotheses :
    State.reset.busy = false ∧ refusalOf (.permute 24) State.reset = none ∧ refusalOf .sum224 State.reset = none ∧
    hashOperands .sum224 = some (28, 1) ∧
    (Instr.sum224, 28) ∈ [(Instr.sum224, 28), (Instr.sum256, 32), (Instr.sum384, 48), (Instr.sum512, 64)] ∧
    ∃ t, exec .sum224 State.reset = .next t :=
  ⟨rfl, by decide, by decide, by decide, by decide, ⟨_, exec_eq_start _ _⟩⟩

/-- DigestIsAPrefixOfTheState: whole registers of the digest and a register above it. -/
theorem test_meets_digest_register_hypotheses :
    8 * (2 : Fin 8).val + 8 ≤ 28 ∧ 8 * (7 : Fin 8).val + 8 ≤ 64 ∧ 28 ≤ 8 * (4 : Fin 8).val := by decide

/-- RefusedCommandTouchesOnlyStatusAndCmd, ErrorStateIsLeftByTheNextCommand: an illegal word and a refused operand. -/
theorem test_meets_refusal_hypotheses :
    State.reset.busy = false ∧
    (match decode 0 with | .error _ => some .invalidCommand | .ok i => refusalOf i State.reset) =
      some CmdError.invalidCommand ∧
    (match decode 0x190001 with | .error _ => some .invalidCommand | .ok i => refusalOf i State.reset) =
      some CmdError.invalidRounds := by decide

/-- IterationByHand: the copy goes to the last 64 bytes of `MSG`. -/
theorem test_meets_iteration_hypotheses :
    legalMdlen 64 = true ∧ 2 ≤ 2 ∧ abc.windowFits = true ∧ 4032 + 64 ≤ abc.msgSize ∧ 4032 < 2 ^ 64 ∧
    ∃ t, exec (.hash 64) abc = .next t :=
  ⟨by decide, by decide, by decide, by decide, by decide, ⟨_, exec_eq_start _ _⟩⟩

/-- `abc` with another byte just above the window. -/
def abcd : State := { abc with msg := [(0, 0x61), (1, 0x62), (2, 0x63), (3, 0x64)], lanes := zeroLanes.set 0 5 }

/-- HashDependsOnlyOnItsWindow. -/
theorem test_meets_window_hypotheses :
    hashOperands .sum256 = some (32, 1) ∧ refusalOf .sum256 abc = none ∧ refusalOf .sum256 abcd = none ∧
    abc.inAddr = abcd.inAddr ∧ abc.inLen = abcd.inLen ∧ abc ≠ abcd ∧
    ∀ a, abc.inAddr.toNat ≤ a → a < abc.inAddr.toNat + abc.inLen.toNat → abc.msgByte a = abcd.msgByte a := by
  refine ⟨rfl, by decide, by decide, rfl, rfl, by decide +kernel, fun a _ h => ?_⟩
  have h3 : a < 3 := h
  interval_cases a <;> rfl

/-- StepRunsTheDecodedCommand, StatusAfterAcceptedCommand, ErrorStateIsLeftByTheNextCommand, CmdReadsBack,
FoldedRunEqualsStepwiseRun. -/
theorem test_meets_issue_hypotheses :
    State.reset.busy = false ∧ decode 0x0000000000001C02 = .ok (.hash 28) ∧ refusalOf (.hash 28) State.reset = none ∧
    decodeTableWord 64 0x180001 = some (.permute 24) := by decide

/-- StatusWordLayout, BusyLock: a busy block, a transaction that is not the read of `STATUS`. -/
theorem test_meets_busy_hypotheses :
    busyPermute.busy = true ∧ 0x100 ≠ 0x008 ∧ Transaction.read .reg 0x008 4 ≠ .read .reg 0x008 8 := by decide

/-- ErrorStateIsLeftByTheNextCommand: a refused transaction, and an allowed one that does not write `CMD`. -/
theorem test_meets_error_state_hypotheses :
    State.reset.busy = false ∧ State.reset.allows (.write .reg 0x000 4 5) = false ∧
    State.reset.allows (.write .reg 0x010 8 5) = true ∧ (Transaction.write .reg 0x010 8 5).cmdWord = none := by decide

/-- RegisterAccessRules: the first and the last register of each kind, and offsets just outside. -/
theorem test_meets_register_hypotheses :
    State.reset.busy = false ∧ regAt 0x000 = some .cmd ∧ regAt 0x018 = some .inLen ∧ regAt 0x040 = some (.digest 0) ∧
    regAt 0x078 = some (.digest 7) ∧ regAt 0x100 = some (.lane 0) ∧ regAt 0x1C0 = some (.lane 24) ∧
    State.reset.allows (.read .reg 0x020 8) = false ∧ State.reset.allows (.read .reg 0x1C8 8) = false := by decide

/-- RegisterMap: an unmapped offset of each kind, an idle and a busy block. -/
theorem test_meets_register_map_hypotheses :
    regAt 0x00C = none ∧ regAt 0x020 = none ∧ regAt 0x0F8 = none ∧ regAt 0x1C8 = none ∧ regAt 0x200 = none ∧
    State.reset.busy = false ∧ busyPermute.busy = true := by decide

/-- MessageAccessRules, MixedWidthAccessesSeeBytes: the last bytes of `MSG`, and an access past them. -/
theorem test_meets_message_hypotheses :
    State.reset.allows (.read .msg 4088 8) = true ∧ State.reset.allows (.write .msg 4088 8 5) = true ∧
    State.reset.allows (.write .msg 4095 1 5) = true ∧ State.reset.allows (.write .msg 4095 2 5) = false ∧
    State.reset.busy = false ∧ 24 ≤ State.reset.msgSize := by decide

/-- StepKeepsTheInvariant (BusyStatusReads, EngineCountsDown, RunningCommandCompletesOnTime: the two states above). -/
theorem test_meets_invariant_hypotheses : Inv busyPermute ∧ step busyPermute = .next busyPermute.advance :=
  ⟨test_inv_busyPermute.1, step_no_event rfl⟩

/-- `abc` with other hidden registers. -/
def abcHidden : State := { abc with ptr := 7, rem := 9, tmp := 3, mdl := 48, nrl := 1 }

/-- HiddenRegistersAreInvisible, before a waiting `SUM256`. -/
theorem test_meets_hidden_hypotheses :
    SameVisible (abc.withIssue 5 true []) (abcHidden.withIssue 5 true []) ∧ (abc.withIssue 5 true []).busy = false ∧
    abc ≠ abcHidden ∧ ∀ t rest, (abc.withIssue 5 true []).events ≠ .host t false :: rest := by
  refine ⟨by constructor <;> rfl, rfl, by decide +kernel, fun t rest h => ?_⟩
  cases h

end Sys2Proof.Tests
end

section
/-! SUPPORT. The rotation of rule R12: its reading as the library's rotation, where it moves each bit, and the amounts
of the rotation table. -/

namespace Sys2Proof.Machine

/-- Below the word's width, `ROTL64` is the library's rotation. -/
theorem rotl64_eq_rotateLeft (v : Word) {r : Nat} (hr : r < 64) : rotl64 v r = v.rotateLeft r := by
  rw [BitVec.rotateLeft_def, Nat.mod_eq_of_lt hr, rotl64]

/-- R12: either bit `i` stays inside the word and moves up by `r`, or it leaves at the top and comes in again at the
bottom. -/
theorem getLsbD_rotl64_add_mod (v : Word) {r i : Nat} (hr : r < 64) (hi : i < 64) :
    (rotl64 v r).getLsbD ((i + r) % 64) = v.getLsbD i := by
  rw [rotl64_eq_rotateLeft v hr, BitVec.getLsbD_rotateLeft, Nat.mod_eq_of_lt hr]
  rcases Nat.lt_or_ge (i + r) 64 with hstays | hwraps
  · rw [Nat.mod_eq_of_lt hstays]
    simp [hstays]
  · have hplace : (i + r) % 64 = i + r - 64 := by omega
    have hlow : i + r - 64 < r := by omega
    have hsource : 64 - r + (i + r - 64) = i := by omega
    simp [hplace, hlow, hsource]

theorem rotationOffsets_range : ∀ r ∈ rotationOffsets, 1 ≤ r ∧ r ≤ 63 := by decide

/-- Settles O8: the formula is the definition of `rotl64`, and each bit moves as `getLsbD_rotl64_add_mod` says. -/
theorem rotationMovesEachBit : Obligations.RotationMovesEachBit := by
  refine ⟨fun v r i _ hr hi => ⟨rfl, ?_⟩, rotationOffsets_range, by decide⟩
  exact getLsbD_rotl64_add_mod v (Nat.lt_succ_of_le hr) hi

end Sys2Proof.Machine
end

section
/-! SUPPORT. `STATUS` (rules R26, R56, R58): its word bit by bit, its read in every state, and the busy lock on the
other registers. -/

namespace Sys2Proof.Machine

/-! ### The word -/

theorem toNat_append_eq_add {m n : Nat} (x : BitVec m) (y : BitVec n) :
    (x ++ y).toNat = x.toNat * 2 ^ n + y.toNat := by
  rw [BitVec.toNat_append, ← Nat.shiftLeft_add_eq_or_of_lt y.isLt, Nat.shiftLeft_eq]

/-- R26: the sum that defines the word puts the fields of `STATUS` side by side, without a carry between them. -/
theorem statusWord_eq_append (s : State) :
    s.statusWord = 0#40 ++ s.dlen ++ s.ecode ++ 0#5 ++ BitVec.ofBool s.err ++ BitVec.ofBool s.done ++
      BitVec.ofBool s.busy := by
  apply BitVec.eq_of_toNat_eq
  have hdlen : s.dlen.toNat < 2 ^ 8 := s.dlen.isLt
  have hecode : s.ecode.toNat < 2 ^ 8 := s.ecode.isLt
  have herr := s.err.toNat_lt
  have hdone := s.done.toNat_lt
  have hbusy := s.busy.toNat_lt
  simp only [State.statusWord, toNat_append_eq_add, BitVec.toNat_ofNat, BitVec.toNat_ofBool]
  omega

/-- Every bit of the word: the field it lies in is found from the low end up. -/
theorem getLsbD_statusWord (s : State) (k : Nat) :
    s.statusWord.getLsbD k =
      if k = 0 then s.busy else if k = 1 then s.done else if k = 2 then s.err else if k < 8 then false
      else if k < 16 then s.ecode.getLsbD (k - 8) else s.dlen.getLsbD (k - 16) := by
  rw [statusWord_eq_append]
  simp only [BitVec.getLsbD_append]
  grind

theorem getLsbD_statusWord_reservedLow (s : State) {k : Nat} (hlow : 3 ≤ k) (hhigh : k ≤ 7) :
    s.statusWord.getLsbD k = false := by
  rw [getLsbD_statusWord]
  grind

theorem getLsbD_statusWord_ecode (s : State) {k : Nat} (hk : k < 8) :
    s.statusWord.getLsbD (8 + k) = s.ecode.getLsbD k := by
  rw [getLsbD_statusWord]
  grind

theorem getLsbD_statusWord_dlen (s : State) (k : Nat) : s.statusWord.getLsbD (16 + k) = s.dlen.getLsbD k := by
  rw [getLsbD_statusWord]
  grind

theorem getLsbD_statusWord_reservedHigh (s : State) {k : Nat} (hk : 24 ≤ k) : s.statusWord.getLsbD k = false := by
  obtain ⟨j, rfl⟩ := Nat.exists_eq_add_of_le hk
  rw [Nat.add_assoc 16 8 j, getLsbD_statusWord_dlen]
  exact BitVec.getLsbD_of_ge _ _ (by omega)

/-! ### The access -/

/-- The read of `STATUS` is in the busy lock's exception and within the access rules of `REG`. -/
theorem allows_statusRead (s : State) : s.allows (.read .reg 0x008 8) = true := by
  simp [State.allows, Transaction.isStatusRead, State.spaceAllows, regAccess, regAt]

theorem perform_statusRead (s : State) : s.perform (.read .reg 0x008 8) = s.withAnswer (.value s.statusWord) := by
  simp [State.perform, regAt, State.readReg]

theorem step_statusRead (s : State) (rest : List Event) :
    step (s.withHost (.read .reg 0x008 8) false rest) =
      .next { s with events := rest, answer := some (.value s.statusWord) } := by
  rw [step_withHost, hostTurn_plain (.inr rfl), respond_allowed (allows_statusRead _), perform_statusRead]
  rfl

/-- `STATUS` is read-only, idle or busy. -/
theorem allows_statusWrite (s : State) (n : Nat) (v : Word) : s.allows (.write .reg 0x008 n v) = false := by
  simp [State.allows, State.spaceAllows, regAccess, regAt, Reg.writable]

/-- The busy lock (R58) refuses every transaction but the read of `STATUS`. -/
theorem allows_busy {s : State} {t : Transaction} (hbusy : s.busy = true) (ht : t.isStatusRead = false) :
    s.allows t = false := by
  simp [State.allows, hbusy, ht]

/-- Settles O40: the bits from `getLsbD_statusWord`, the read and the write by their access rules, and the other
registers by the busy lock. -/
theorem statusWordLayout : Obligations.StatusWordLayout := by
  refine ⟨fun s => ⟨?busy, ?done, ?err, ?reservedLow, ?ecode, ?dlen, ?reservedHigh⟩, step_statusRead,
    allows_statusWrite, ?lock⟩
  case busy => exact getLsbD_statusWord s 0
  case done => exact getLsbD_statusWord s 1
  case err => exact getLsbD_statusWord s 2
  case reservedLow => exact fun _ => getLsbD_statusWord_reservedLow s
  case ecode => exact fun _ => getLsbD_statusWord_ecode s
  case dlen => exact fun k _ => getLsbD_statusWord_dlen s k
  case reservedHigh => exact fun _ => getLsbD_statusWord_reservedHigh s
  case lock =>
    intro s a n hbusy ha
    exact allows_busy hbusy (by simp [Transaction.isStatusRead, ha])

end Sys2Proof.Machine
end

section
/-! SUPPORT. Words and bytes (20_memory.md rules R50 and R51): the bytes of a word, and words read from consecutive
bytes. -/

namespace Sys2Proof.Machine

/-! ### The bytes of a word -/

theorem byteOf_eq_extractLsb' (v : Word) (k : Nat) : byteOf v k = v.extractLsb' (8 * k) 8 := rfl

theorem byteOf_shiftRight (v : Word) (j k : Nat) : byteOf (v >>> (8 * j)) k = byteOf v (j + k) := by
  rw [byteOf, byteOf, BitVec.toNat_ushiftRight, ← Nat.shiftRight_add, Nat.mul_add]

/-- Two words with the same eight bytes are equal. -/
theorem word_eq_of_byteOf_eq {v w : Word} (h : ∀ k < 8, byteOf v k = byteOf w k) : v = w := by
  apply BitVec.eq_of_getLsbD_eq
  intro i hi
  have hbyte := congrArg (BitVec.getLsbD · (i % 8)) (h (i / 8) (by omega))
  simpa [byteOf_eq_extractLsb', BitVec.getLsbD_extractLsb', Nat.mod_lt, Nat.div_add_mod] using hbyte

theorem take_bytes8 (v : Word) {n : Nat} (hn : n ≤ 8) : (bytes8 v).take n = (List.range n).map (byteOf v) := by
  rw [bytes8, ← List.map_take, List.take_range, Nat.min_eq_left hn]

theorem le64_singleton (b : Byte) : le64 [b] = b.setWidth 64 := by
  apply BitVec.eq_of_toNat_eq
  simp [le64, leNat]

theorem setWidth_byteOf (v : Word) (k : Nat) :
    (byteOf v k).setWidth 64 = BitVec.ofNat 64 (v.toNat / 2 ^ (8 * k) % 2 ^ 8) := by
  apply BitVec.eq_of_toNat_eq
  simp [byteOf, Nat.shiftRight_eq_div_pow]

/-! ### Reads of consecutive bytes -/

theorem State.memRead_getD (s : State) (q : Source) (a : Nat) {n k : Nat} (hk : k < n) :
    (s.memRead q a n).getD k 0 = s.sourceByte q (a + k) := by
  rw [List.getD_eq_getElem _ _ (by simpa using hk), State.memRead_getElem]

theorem State.memRead_one (s : State) (q : Source) (a : Nat) : s.memRead q a 1 = [s.sourceByte q a] := rfl

/-- R51 for reads: a byte sequence is read one byte at a time. -/
theorem State.memRead_eq_flatMap (s : State) (q : Source) (a n : Nat) :
    s.memRead q a n = (List.range n).flatMap fun k => s.memRead q (a + k) 1 :=
  List.map_eq_flatMap

/-- R50: the word read from up to eight bytes is their little-endian sum. -/
theorem le64_memRead_toNat (s : State) (q : Source) (a : Nat) {n : Nat} (hn : n ≤ 8) :
    (le64 (s.memRead q a n)).toNat = ∑ k ∈ Finset.range n, 2 ^ (8 * k) * (s.sourceByte q (a + k)).toNat := by
  rw [le64_toNat _ (by simpa using hn), leNat_eq_sum, State.memRead_length]
  refine Finset.sum_congr rfl fun k hk => ?_
  rw [State.memRead_getD s q a (Finset.mem_range.mp hk)]

theorem State.byteOf_loadLane (s : State) (q : Source) (a : Nat) {k : Nat} (hk : k < 8) :
    byteOf (s.loadLane q a) k = s.sourceByte q (a + k) := by
  rw [State.loadLane, byteOf_le64 _ (by simp), State.memRead_getD s q a hk]

/-- R29: the bytes of a `DIGESTj` are those of `DIG`. -/
theorem extractLsb'_readReg_digest (s : State) (j k : Fin 8) :
    (s.readReg (.digest j)).extractLsb' (8 * k.val) 8 = s.dig[8 * j.val + k.val] := by
  calc (s.readReg (.digest j)).extractLsb' (8 * k.val) 8
    _ = s.digByte (8 * j.val + k.val) := State.byteOf_loadLane s .dig (8 * j.val) k.isLt
    _ = s.dig[8 * j.val + k.val] := s.digByte_eq_getElem (by omega)

end Sys2Proof.Machine
end

section
/-! SUPPORT. The host's transactions (rules R30, R56 to R58): the offsets of the registers, which transactions are
allowed, and the step of each kind of transaction. -/

namespace Sys2Proof.Machine

/-! ### The offsets of the registers -/

theorem regAt_offset (r : Reg) : regAt r.offset = some r := by
  have hdigest : ∀ j : Fin 8, regAt (0x040 + 8 * j.val) = some (.digest j) := by decide
  have hlane : ∀ i : Fin 25, regAt (0x100 + 8 * i.val) = some (.lane i) := by decide
  cases r with
  | cmd | status | inAddr | inLen => rfl
  | digest j => exact hdigest j
  | lane i => exact hlane i

theorem offset_of_regAt {a : Nat} {r : Reg} (h : regAt a = some r) : a = r.offset := by
  unfold regAt at h
  split_ifs at h <;> cases h <;> simp only [Reg.offset] <;> omega

/-- R30: the offset of a register is the only place where it is found. -/
theorem regAt_eq_some_iff {a : Nat} {r : Reg} : regAt a = some r ↔ a = r.offset :=
  ⟨offset_of_regAt, fun h => h ▸ regAt_offset r⟩

theorem exists_digest_offset {a : Nat} (halign : a % 8 = 0) (hlow : 0x040 ≤ a) (hhigh : a ≤ 0x078) :
    ∃ j, a = (Reg.digest j).offset :=
  ⟨⟨(a - 0x040) / 8, by omega⟩, by simp only [Reg.offset]; omega⟩

theorem exists_lane_offset {a : Nat} (halign : a % 8 = 0) (hlow : 0x100 ≤ a) (hhigh : a ≤ 0x1C0) :
    ∃ i, a = (Reg.lane i).offset :=
  ⟨⟨(a - 0x100) / 8, by omega⟩, by simp only [Reg.offset]; omega⟩

/-- The mapped offsets (R30). -/
theorem exists_offset_iff {a : Nat} :
    (∃ r : Reg, a = r.offset) ↔
      a % 8 = 0 ∧ (a ≤ 0x018 ∨ (0x040 ≤ a ∧ a ≤ 0x078) ∨ (0x100 ≤ a ∧ a ≤ 0x1C0)) := by
  constructor
  · rintro ⟨r, rfl⟩
    cases r with
    | cmd | status | inAddr | inLen => decide
    | digest j | lane i => simp only [Reg.offset]; omega
  · rintro ⟨halign, hlow | ⟨hlow, hhigh⟩ | ⟨hlow, hhigh⟩⟩
    · obtain rfl | rfl | rfl | rfl : a = 0x000 ∨ a = 0x008 ∨ a = 0x010 ∨ a = 0x018 := by omega
      · exact ⟨.cmd, rfl⟩
      · exact ⟨.status, rfl⟩
      · exact ⟨.inAddr, rfl⟩
      · exact ⟨.inLen, rfl⟩
    · obtain ⟨j, hj⟩ := exists_digest_offset halign hlow hhigh
      exact ⟨_, hj⟩
    · obtain ⟨i, hi⟩ := exists_lane_offset halign hlow hhigh
      exact ⟨_, hi⟩

/-- The offsets of the registers the host may write (R30). -/
theorem exists_writable_offset_iff {a : Nat} :
    (∃ r : Reg, a = r.offset ∧ r.writable = true) ↔
      a % 8 = 0 ∧ (a = 0x000 ∨ a = 0x010 ∨ a = 0x018 ∨ (0x100 ≤ a ∧ a ≤ 0x1C0)) := by
  constructor
  · rintro ⟨r, rfl, hr⟩
    cases r with
    | status | digest j => cases hr
    | cmd | inAddr | inLen => decide
    | lane i => simp only [Reg.offset]; omega
  · rintro ⟨halign, rfl | rfl | rfl | ⟨hlow, hhigh⟩⟩
    · exact ⟨.cmd, rfl, rfl⟩
    · exact ⟨.inAddr, rfl, rfl⟩
    · exact ⟨.inLen, rfl, rfl⟩
    · obtain ⟨i, hi⟩ := exists_lane_offset halign hlow hhigh
      exact ⟨_, hi, rfl⟩

/-! ### Which transactions are allowed -/

theorem isStatusRead_iff {t : Transaction} : t.isStatusRead = true ↔ t = .read .reg 0x008 8 := by
  rcases t with ⟨_ | _, a, n⟩ | ⟨space, a, n, v⟩ <;> simp [Transaction.isStatusRead]

theorem allows_iff {s : State} {t : Transaction} :
    s.allows t = true ↔ (s.busy = false ∨ t = .read .reg 0x008 8) ∧ s.spaceAllows t = true := by
  simp [State.allows, isStatusRead_iff]

theorem regAccess_read_iff {a n : Nat} : regAccess false a n = true ↔ n = 8 ∧ ∃ r : Reg, a = r.offset := by
  simp [regAccess, Option.isSome_iff_exists, regAt_eq_some_iff]

theorem regAccess_write_iff {a n : Nat} :
    regAccess true a n = true ↔ n = 8 ∧ ∃ r : Reg, a = r.offset ∧ r.writable = true := by
  simp [regAccess, Option.any_eq_true, regAt_eq_some_iff]

theorem allows_readReg_iff {s : State} {a n : Nat} :
    s.allows (.read .reg a n) = true ↔
      (s.busy = false ∨ a = 0x008) ∧ n = 8 ∧ ∃ r : Reg, a = r.offset := by
  rw [allows_iff, State.spaceAllows, regAccess_read_iff]
  simp only [Transaction.read.injEq, true_and]
  tauto

theorem allows_writeReg_iff {s : State} {a n : Nat} {v : Word} :
    s.allows (.write .reg a n v) = true ↔
      s.busy = false ∧ n = 8 ∧ ∃ r : Reg, a = r.offset ∧ r.writable = true := by
  simp [allows_iff, State.spaceAllows, regAccess_write_iff]

theorem msgAccess_iff {s : State} {a n : Nat} :
    s.msgAccess a n = true ↔ (n = 1 ∨ n = 2 ∨ n = 4 ∨ n = 8) ∧ a + n ≤ s.msgSize := by
  simp [State.msgAccess, legalMsgWidth, or_assoc]

theorem allows_readMsg_iff {s : State} {a n : Nat} :
    s.allows (.read .msg a n) = true ↔
      s.busy = false ∧ (n = 1 ∨ n = 2 ∨ n = 4 ∨ n = 8) ∧ a + n ≤ s.msgSize := by
  simp [allows_iff, State.spaceAllows, msgAccess_iff]

theorem allows_writeMsg_iff {s : State} {a n : Nat} {v : Word} :
    s.allows (.write .msg a n v) = true ↔
      s.busy = false ∧ (n = 1 ∨ n = 2 ∨ n = 4 ∨ n = 8) ∧ a + n ≤ s.msgSize := by
  simp [allows_iff, State.spaceAllows, msgAccess_iff]

/-- R15: what the host will ask later plays no part in what it may ask now. -/
theorem allows_withEvents (s : State) (es : List Event) (t : Transaction) :
    ({ s with events := es } : State).allows t = s.allows t := by
  rcases t with ⟨_ | _, a, n⟩ | ⟨_ | _, a, n, v⟩ <;> rfl

/-! ### Steps -/

theorem step_refused {s : State} {t : Transaction} (ht : s.allows t = false) (rest : List Event) :
    step (s.withHost t false rest) = .next { s with events := rest, answer := some .error } := by
  have ht' : ({ s with events := rest } : State).allows t = false := by rw [allows_withEvents, ht]
  rw [step_withHost, hostTurn_plain (.inl ht'), respond_refused ht']
  rfl

theorem step_allowed {s : State} {t : Transaction} (ht : s.allows t = true) (hcmd : t.cmdWord = none)
    (rest : List Event) :
    step (s.withHost t false rest) = .next (({ s with events := rest } : State).perform t) := by
  have ht' : ({ s with events := rest } : State).allows t = true := by rw [allows_withEvents, ht]
  rw [step_withHost, hostTurn_plain (.inr hcmd), respond_allowed ht']
  rfl

theorem cmdWord_writeReg_eq_none {a : Nat} (ha : a ≠ 0) (n : Nat) (v : Word) :
    (Transaction.write .reg a n v).cmdWord = none := by
  simp [Transaction.cmdWord, ha]

theorem step_readReg {s : State} {r : Reg} (hbusy : s.busy = false) (rest : List Event) :
    step (s.withHost (.read .reg r.offset 8) false rest) =
      .next { s with events := rest, answer := some (.value (s.readReg r)) } := by
  rw [step_allowed (allows_readReg_iff.mpr ⟨.inl hbusy, rfl, r, rfl⟩) rfl, State.perform, regAt_offset]
  cases r <;> rfl

theorem step_writeReg {s : State} {r : Reg} (hbusy : s.busy = false) (hr : r.writable = true) (hcmd : r.offset ≠ 0)
    (v : Word) (rest : List Event) :
    step (s.withHost (.write .reg r.offset 8 v) false rest) =
      .next ((({ s with events := rest } : State).writeReg r v).withAnswer .ok) := by
  have hallowed : s.allows (.write .reg r.offset 8 v) = true := allows_writeReg_iff.mpr ⟨hbusy, rfl, r, rfl, hr⟩
  rw [step_allowed hallowed (cmdWord_writeReg_eq_none hcmd 8 v), State.perform, regAt_offset]
  rfl

theorem step_writeCmd {s : State} (hbusy : s.busy = false) (v : Word) (rest : List Event) :
    step (s.withHost (.write .reg 0x000 8 v) false rest) =
      issue v false ((({ s with events := rest } : State).latch v).withAnswer .ok) :=
  hostTurn_issue (s := { s with events := rest }) hbusy v false

end Sys2Proof.Machine
end

section
/-! SUPPORT. The host's accesses to `MSG` (rules R51 and R57): what a read answers, which bytes a write replaces, and that
a write is its writes of one byte each. -/

namespace Sys2Proof.Machine

/-! ### Reads -/

theorem respond_readMsg {s : State} {a n : Nat} (hallowed : s.allows (.read .msg a n) = true) :
    s.respond (.read .msg a n) = s.withAnswer (.value (le64 (s.memRead .msg a n))) :=
  respond_allowed hallowed

theorem respond_readMsg_one {s : State} {a : Nat} (hbusy : s.busy = false) (ha : a < s.msgSize) :
    s.respond (.read .msg a 1) = s.withAnswer (.value ((s.msgByte a).setWidth 64)) := by
  rw [respond_readMsg (allows_readMsg_iff.mpr ⟨hbusy, .inl rfl, ha⟩), State.memRead_one, le64_singleton]
  rfl

/-! ### Writes -/

/-- R57: a write replaces the bytes of its window and no other. -/
theorem State.msgByte_performWrite (s : State) (a : Nat) {n : Nat} (hn : n ≤ 8) (v : Word) (x : Nat) :
    (s.perform (.write .msg a n v)).msgByte x =
      if a ≤ x ∧ x < a + n then byteOf v (x - a) else s.msgByte x := by
  have hstore := State.msgByte_store s a ((bytes8 v).take n) x
  rw [take_bytes8 v hn, List.length_map, List.length_range] at hstore
  rw [State.perform, take_bytes8 v hn]
  refine Eq.trans hstore ?_
  split_ifs with hx
  · rw [List.getD_eq_getElem _ _ (by simp; omega), List.getElem_map, List.getElem_range]
  · rfl

theorem Memory.storeBytes_concat (m : List Host.Cell) (a : Nat) (vs : List Byte) (w : Byte) :
    Memory.storeBytes m a (vs ++ [w]) = Memory.store (Memory.storeBytes m a vs) (a + vs.length) w := by
  induction vs generalizing m a with
  | nil => rfl
  | cons v vs ih =>
    rw [List.cons_append, Memory.storeBytes, Memory.storeBytes, ih, List.length_cons, Nat.add_right_comm, Nat.add_assoc]

/-- R51 for writes: a write made longer by one byte is the shorter write followed by the write of that byte. -/
theorem respond_performWrite_succ {s : State} (hbusy : s.busy = false) {a n : Nat} (hn : n < 8)
    (hin : a + (n + 1) ≤ s.msgSize) (v : Word) :
    (s.perform (.write .msg a n v)).respond (.write .msg (a + n) 1 (v >>> (8 * n))) =
      s.perform (.write .msg a (n + 1) v) := by
  have hallowed : (s.perform (.write .msg a n v)).allows (.write .msg (a + n) 1 (v >>> (8 * n))) = true :=
    allows_writeMsg_iff.mpr ⟨hbusy, .inl rfl, hin⟩
  rw [respond_allowed hallowed]
  simp [State.perform, State.withAnswer, take_bytes8 v hn.le, take_bytes8 v hn, take_bytes8 _ (show 1 ≤ 8 by omega),
    List.range_succ, Memory.storeBytes_concat, byteOf_shiftRight, Memory.storeBytes]

/-- R51: `n` writes of one byte each leave the state that one write of `n` bytes leaves. -/
theorem foldl_byteWrites {s : State} (hbusy : s.busy = false) (a : Nat) (v : Word) {n : Nat} (hpos : 1 ≤ n)
    (hn : n ≤ 8) (hin : a + n ≤ s.msgSize) :
    (List.range n).foldl (fun u k => u.respond (.write .msg (a + k) 1 (v >>> (8 * k)))) s =
      s.perform (.write .msg a n v) := by
  induction n, hpos using Nat.le_induction with
  | base =>
    have hallowed : s.allows (.write .msg a 1 v) = true := allows_writeMsg_iff.mpr ⟨hbusy, .inl rfl, hin⟩
    simpa using respond_allowed hallowed
  | succ n hpos ih =>
    rw [List.range_succ, List.foldl_append, ih (by omega) (by omega)]
    exact respond_performWrite_succ hbusy (by omega) hin v

/-! ### Reads of what was written -/

/-- R51: the bytes of a write, read back one at a time. -/
theorem respond_readByte_of_write {s : State} {a n : Nat} {v : Word} (hallowed : s.allows (.write .msg a n v) = true)
    {k : Nat} (hk : k < n) :
    (s.respond (.write .msg a n v)).respond (.read .msg (a + k) 1) =
      (s.respond (.write .msg a n v)).withAnswer (.value (BitVec.ofNat 64 (v.toNat / 2 ^ (8 * k) % 2 ^ 8))) := by
  obtain ⟨hbusy, hwidth, hin⟩ := allows_writeMsg_iff.mp hallowed
  have hread := respond_readMsg_one (s := s.perform (.write .msg a n v)) (a := a + k) hbusy
    (show a + k < s.msgSize by omega)
  rw [respond_allowed hallowed, hread, State.msgByte_performWrite s a (by omega) v, if_pos (by omega),
    Nat.add_sub_cancel_left, setWidth_byteOf]

/-- R51: the engine reads the word that the host wrote. -/
theorem loadLane_of_write {s : State} {a : Nat} {v : Word} (hallowed : s.allows (.write .msg a 8 v) = true) :
    (s.respond (.write .msg a 8 v)).loadLane .msg a = v := by
  rw [respond_allowed hallowed]
  refine word_eq_of_byteOf_eq fun k hk => ?_
  calc byteOf ((s.perform (.write .msg a 8 v)).loadLane .msg a) k
    _ = (s.perform (.write .msg a 8 v)).msgByte (a + k) := State.byteOf_loadLane _ .msg a hk
    _ = byteOf v k := by
      rw [State.msgByte_performWrite s a le_rfl v, if_pos (by omega), Nat.add_sub_cancel_left]

end Sys2Proof.Machine
end

section
/-! SUPPORT. The statements on the host's accesses: the registers (R56), the message memory (R57), byte order (R51) and
the busy lock (R58). -/

namespace Sys2Proof.Machine

/-- Settles O48: the lock refuses by `allows_busy`, and the read of `STATUS` is its exception. -/
theorem busyLock : Obligations.BusyLock := by
  intro s rest hbusy
  refine ⟨fun t ht => step_refused (allows_busy hbusy ?_) rest, step_statusRead s rest⟩
  exact Bool.eq_false_iff.mpr (mt isStatusRead_iff.mp ht)

/-- Settles O44: the conditions from the offsets of the mapped and of the writable registers, the effects from the step
of each kind of access. -/
theorem registerAccessRules : Obligations.RegisterAccessRules := by
  refine ⟨?readAllowed, ?writeAllowed, ?read, ?values, ?write, fun s t rest ht => step_refused ht rest⟩
  case readAllowed => exact fun s a n => by rw [allows_readReg_iff, exists_offset_iff]
  case writeAllowed => exact fun s a n v => by rw [allows_writeReg_iff, exists_writable_offset_iff]
  case read =>
    intro s a r rest hbusy hr
    obtain rfl := offset_of_regAt hr
    exact step_readReg hbusy rest
  case values =>
    exact fun s => ⟨rfl, rfl, rfl, rfl, fun i => lane_eq_getElem s.lanes i.isLt, extractLsb'_readReg_digest s⟩
  case write =>
    intro s v rest hbusy
    refine ⟨?inAddr, ?inLen, fun i => ?lane, step_writeCmd hbusy v rest⟩
    case inAddr => exact step_writeReg (r := .inAddr) hbusy rfl (by decide) v rest
    case inLen => exact step_writeReg (r := .inLen) hbusy rfl (by decide) v rest
    case lane => exact step_writeReg (r := .lane i) hbusy rfl (by simp [Reg.offset]) v rest

/-- Settles O46: a read answers the sum of `le64_memRead_toNat`, a write changes the bytes that
`State.msgByte_performWrite` names. -/
theorem messageAccessRules : Obligations.MessageAccessRules := by
  refine ⟨fun s a n v => ⟨allows_readMsg_iff, allows_writeMsg_iff⟩, ?read, ?write,
    fun s t rest ht => step_refused ht rest⟩
  case read =>
    intro s a n rest hallowed
    obtain ⟨-, hwidth, -⟩ := allows_readMsg_iff.mp hallowed
    exact ⟨_, step_allowed hallowed rfl rest, le64_memRead_toNat s .msg a (by omega)⟩
  case write =>
    intro s a n v rest hallowed
    obtain ⟨-, hwidth, -⟩ := allows_writeMsg_iff.mp hallowed
    have hbyte := State.msgByte_performWrite { s with events := rest } a (show n ≤ 8 by omega) v
    refine ⟨_, step_allowed hallowed rfl rest, fun k hk => ?inside, fun x hx => ?outside, rfl⟩
    case inside => rw [hbyte, if_pos (by omega), Nat.add_sub_cancel_left, byteOf_eq_extractLsb']
    case outside => exact (hbyte x).trans (if_neg (by omega))

/-- Settles O47: reads by `le64_memRead_toNat`, writes by `foldl_byteWrites`, the spec's example from the clauses on
writes. -/
theorem mixedWidthAccessesSeeBytes : Obligations.MixedWidthAccessesSeeBytes := by
  refine ⟨?hostRead, fun s j => le64_memRead_toNat s .dig _ le_rfl,
    fun s a => ⟨le64_memRead_toNat s .msg a le_rfl, le64_memRead_toNat s .dig a le_rfl⟩, State.memRead_eq_flatMap,
    ?hostWrite, ?specExample⟩
  case hostRead =>
    intro s a n hallowed
    obtain ⟨hbusy, hwidth, hin⟩ := allows_readMsg_iff.mp hallowed
    exact ⟨fun k hk => respond_readMsg_one hbusy (by omega), _, respond_readMsg hallowed,
      le64_memRead_toNat s .msg a (by omega)⟩
  case hostWrite =>
    intro s a n v hallowed
    obtain ⟨hbusy, hwidth, hin⟩ := allows_writeMsg_iff.mp hallowed
    refine ⟨fun k => respond_readByte_of_write hallowed, ?engine, fun x => ?bytewise⟩
    case engine =>
      rintro rfl
      exact loadLane_of_write hallowed
    case bytewise => rw [foldl_byteWrites hbusy a v (by omega) (by omega) hin, respond_allowed hallowed]
  case specExample =>
    intro s hbusy hsize
    have hallowed : s.allows (.write .msg 16 8 0x0706050403020100) = true :=
      allows_writeMsg_iff.mpr ⟨hbusy, by decide, hsize⟩
    exact ⟨respond_readByte_of_write (k := 3) hallowed (by decide), loadLane_of_write hallowed⟩

end Sys2Proof.Machine
end

section
/-! SUPPORT. The command word (rule R70): its fields determine it, a mask keeps or clears each of them, and a word put
together from numbers that fit holds them in its fields. -/

namespace Sys2Proof

/-! ### Fields -/

theorem bitField_lt (w : Word) (lo len : Nat) : bitField w lo len < 2 ^ len :=
  Nat.mod_lt _ (Nat.two_pow_pos len)

theorem mdlenField_lt (w : Word) : mdlenField w < 2 ^ 8 := bitField_lt w 8 8
theorem nrField_lt (w : Word) : nrField w < 2 ^ 8 := bitField_lt w 16 8
theorem iterField_lt (w : Word) : iterField w < 2 ^ 32 := bitField_lt w 32 32

/-- R70: the five fields cover the word. -/
theorem word_eq_iff_fields {w v : Word} :
    w = v ↔ opField w = opField v ∧ mdlenField w = mdlenField v ∧ nrField w = nrField v ∧
      rsvField w = rsvField v ∧ iterField w = iterField v := by
  refine ⟨fun h => by simp [h], fun h => BitVec.eq_of_toNat_eq ?_⟩
  simp only [opField, mdlenField, nrField, rsvField, iterField, bitField, Nat.shiftRight_eq_div_pow] at h
  omega

/-! ### Words put together from fields -/

theorem fields_commandWord {op mdlen nr rsv iter : Nat} (hop : op < 2 ^ 8) (hmdlen : mdlen < 2 ^ 8) (hnr : nr < 2 ^ 8)
    (hrsv : rsv < 2 ^ 8) (hiter : iter < 2 ^ 32) :
    opField (commandWord op mdlen nr rsv iter) = op ∧ mdlenField (commandWord op mdlen nr rsv iter) = mdlen ∧
      nrField (commandWord op mdlen nr rsv iter) = nr ∧ rsvField (commandWord op mdlen nr rsv iter) = rsv ∧
      iterField (commandWord op mdlen nr rsv iter) = iter := by
  simp only [opField, mdlenField, nrField, rsvField, iterField, bitField, commandWord, BitVec.toNat_ofNat,
    Nat.shiftRight_eq_div_pow]
  omega

/-- R70: a word is put together from its own fields. -/
theorem commandWord_fields (w : Word) :
    commandWord (opField w) (mdlenField w) (nrField w) (rsvField w) (iterField w) = w :=
  word_eq_iff_fields.mpr <| fields_commandWord (bitField_lt w 0 8) (mdlenField_lt w) (nrField_lt w) (bitField_lt w 24 8)
    (iterField_lt w)

/-! ### Masks -/

theorem bitField_and (w m : Word) (lo len : Nat) :
    bitField (w &&& m) lo len = bitField w lo len &&& bitField m lo len := by
  rw [bitField, BitVec.toNat_and, Nat.shiftRight_and_distrib, Nat.and_mod_two_pow, bitField, bitField]

/-- A mask whose bits in a field are all one keeps that field. -/
theorem bitField_and_of_ones {m : Word} {lo len : Nat} (hm : bitField m lo len = 2 ^ len - 1) (w : Word) :
    bitField (w &&& m) lo len = bitField w lo len := by
  rw [bitField_and, hm, Nat.and_two_pow_sub_one_of_lt_two_pow (bitField_lt w lo len)]

/-- A mask whose bits in a field are all zero clears that field. -/
theorem bitField_and_of_zero {m : Word} {lo len : Nat} (hm : bitField m lo len = 0) (w : Word) :
    bitField (w &&& m) lo len = 0 := by
  rw [bitField_and, hm, Nat.and_zero]

end Sys2Proof
end

section
/-! SUPPORT. The decoder and the encoder (rules R72 to R83): what each opcode uses of the word, the fields of an encoded
command, which words decode to a command, which to none. -/

namespace Sys2Proof

/-! ### What an opcode uses -/

theorem wellFormed_hashi_iff {mdlen k : Nat} :
    (Instr.hashi mdlen k).wellFormed = true ↔ mdlen < 2 ^ 8 ∧ k < 2 ^ 32 := by
  simp [Instr.wellFormed, fitsMdlen, fitsIter]

/-- The fields of `w` that the command's opcode does not use (R81). -/
def Instr.unusedFields (w : Word) : Instr → List Nat
  | .permute _ => [mdlenField w, rsvField w, iterField w]
  | .hash _ => [nrField w, rsvField w, iterField w]
  | .hashi _ _ => [nrField w, rsvField w]
  | .sum224 | .sum256 | .sum384 | .sum512 => [mdlenField w, nrField w, rsvField w, iterField w]

/-- The command of the same opcode with the fields of `w` as its operands. -/
def Instr.withOperandsOf (w : Word) : Instr → Instr
  | .permute _ => .permute (nrField w)
  | .hash _ => .hash (mdlenField w)
  | .hashi _ _ => .hashi (mdlenField w) (iterField w)
  | .sum224 => .sum224
  | .sum256 => .sum256
  | .sum384 => .sum384
  | .sum512 => .sum512

@[simp] theorem Instr.opcode_withOperandsOf (w : Word) (i : Instr) : (i.withOperandsOf w).opcode = i.opcode := by
  cases i <;> rfl

@[simp] theorem Instr.unusedFields_withOperandsOf (w v : Word) (i : Instr) :
    (i.withOperandsOf w).unusedFields v = i.unusedFields v := by
  cases i <;> rfl

@[simp] theorem Instr.withOperandsOf_withOperandsOf (w : Word) (i : Instr) :
    (i.withOperandsOf w).withOperandsOf w = i.withOperandsOf w := by
  cases i <;> rfl

/-- A field of the word fits, so it may stand as an operand. -/
theorem Instr.wellFormed_withOperandsOf (w : Word) (i : Instr) : (i.withOperandsOf w).wellFormed = true := by
  cases i with
  | permute _ => exact decide_eq_true (nrField_lt w)
  | hash _ => exact decide_eq_true (mdlenField_lt w)
  | hashi _ _ => exact wellFormed_hashi_iff.mpr ⟨mdlenField_lt w, iterField_lt w⟩
  | sum224 | sum256 | sum384 | sum512 => rfl

/-! ### Encoded commands -/

theorem fields_encode_permute {nr : Nat} (hnr : nr < 2 ^ 8) :
    opField (encode (.permute nr)) = 0x01 ∧ mdlenField (encode (.permute nr)) = 0 ∧
      nrField (encode (.permute nr)) = nr ∧ rsvField (encode (.permute nr)) = 0 ∧
      iterField (encode (.permute nr)) = 0 :=
  fields_commandWord (by decide) (by decide) hnr (by decide) (by decide)

theorem fields_encode_hash {mdlen : Nat} (hmdlen : mdlen < 2 ^ 8) :
    opField (encode (.hash mdlen)) = 0x02 ∧ mdlenField (encode (.hash mdlen)) = mdlen ∧
      nrField (encode (.hash mdlen)) = 0 ∧ rsvField (encode (.hash mdlen)) = 0 ∧
      iterField (encode (.hash mdlen)) = 0 :=
  fields_commandWord (by decide) hmdlen (by decide) (by decide) (by decide)

theorem fields_encode_hashi {mdlen k : Nat} (hmdlen : mdlen < 2 ^ 8) (hk : k < 2 ^ 32) :
    opField (encode (.hashi mdlen k)) = 0x03 ∧ mdlenField (encode (.hashi mdlen k)) = mdlen ∧
      nrField (encode (.hashi mdlen k)) = 0 ∧ rsvField (encode (.hashi mdlen k)) = 0 ∧
      iterField (encode (.hashi mdlen k)) = k :=
  fields_commandWord (by decide) hmdlen (by decide) (by decide) hk

/-! ### Accepted words -/

theorem ifZero_of_zero {unused : List Nat} (hzero : ∀ x ∈ unused, x = 0) (i : Instr) : ifZero unused i = .ok i :=
  if_pos (by simpa using hzero)

theorem ifZero_of_not_zero {unused : List Nat} (hzero : ¬ ∀ x ∈ unused, x = 0) (i : Instr) :
    ifZero unused i = .error .unusedField :=
  if_neg (by simpa using hzero)

theorem ifZero_eq_ok_iff {unused : List Nat} {i j : Instr} :
    ifZero unused i = .ok j ↔ (∀ x ∈ unused, x = 0) ∧ i = j := by
  by_cases hzero : ∀ x ∈ unused, x = 0
  · rw [ifZero_of_zero hzero, Except.ok.injEq, and_iff_right hzero]
  · simp [ifZero_of_not_zero hzero, hzero]

theorem decode_of_opField {w : Word} {i : Instr} (hop : opField w = i.opcode) :
    decode w = ifZero (i.unusedFields w) (i.withOperandsOf w) := by
  unfold decode
  cases i <;> rw [hop] <;> rfl

/-- R83: the word has the command's opcode, its unused fields are zero, and the others are the operands. -/
theorem decode_eq_ok_iff_fields {w : Word} {i : Instr} :
    decode w = .ok i ↔
      opField w = i.opcode ∧ (∀ x ∈ i.unusedFields w, x = 0) ∧ i.withOperandsOf w = i := by
  constructor
  · intro h
    unfold decode at h
    split at h
    case h_8 => cases h
    all_goals
      rename_i hop
      obtain ⟨hzero, rfl⟩ := ifZero_eq_ok_iff.mp h
      exact ⟨hop, hzero, rfl⟩
  · rintro ⟨hop, hzero, hi⟩
    rw [decode_of_opField hop, ifZero_of_zero hzero, hi]

theorem decode_encode {i : Instr} (hi : i.wellFormed = true) : decode (encode i) = .ok i := by
  rw [decode_eq_ok_iff_fields]
  cases i with
  | permute nr =>
    simp [fields_encode_permute (of_decide_eq_true hi), Instr.opcode, Instr.unusedFields, Instr.withOperandsOf]
  | hash mdlen =>
    simp [fields_encode_hash (of_decide_eq_true hi), Instr.opcode, Instr.unusedFields, Instr.withOperandsOf]
  | hashi mdlen k =>
    obtain ⟨hmdlen, hk⟩ := wellFormed_hashi_iff.mp hi
    simp [fields_encode_hashi hmdlen hk, Instr.opcode, Instr.unusedFields, Instr.withOperandsOf]
  | sum224 | sum256 | sum384 | sum512 => decide

/-- The operands of a decoded command are fields of the word, so they fit. -/
theorem wellFormed_of_decode {w : Word} {i : Instr} (h : decode w = .ok i) : i.wellFormed = true := by
  obtain ⟨-, -, hi⟩ := decode_eq_ok_iff_fields.mp h
  rw [← hi]
  exact i.wellFormed_withOperandsOf w

theorem encode_withOperandsOf {w : Word} {i : Instr} (hop : opField w = i.opcode)
    (hzero : ∀ x ∈ i.unusedFields w, x = 0) : encode (i.withOperandsOf w) = w := by
  have hword := commandWord_fields w
  rw [hop] at hword
  cases i
  all_goals
    simp only [Instr.unusedFields, List.forall_mem_cons] at hzero
    simp only [hzero] at hword
    exact hword

theorem encode_of_decode {w : Word} {i : Instr} (h : decode w = .ok i) : encode i = w := by
  obtain ⟨hop, hzero, hi⟩ := decode_eq_ok_iff_fields.mp h
  rw [← encode_withOperandsOf hop hzero, hi]

theorem decode_eq_ok_iff {w : Word} {i : Instr} : decode w = .ok i ↔ i.wellFormed = true ∧ encode i = w :=
  ⟨fun h => ⟨wellFormed_of_decode h, encode_of_decode h⟩, fun ⟨hi, hw⟩ => hw ▸ decode_encode hi⟩

/-- A command whose operands fit has one word, and no other word decodes to it. -/
theorem decode_eq_ok_iff_eq_encode {i : Instr} (hi : i.wellFormed = true) (w : Word) :
    decode w = .ok i ↔ w = encode i := by
  rw [decode_eq_ok_iff, and_iff_right hi, eq_comm]

/-! ### Illegal words -/

theorem exists_ifZero_eq_error_iff {unused : List Nat} {i : Instr} :
    (∃ e, ifZero unused i = .error e) ↔ ∃ x ∈ unused, x ≠ 0 := by
  by_cases hzero : ∀ x ∈ unused, x = 0
  · simpa [ifZero_of_zero hzero] using hzero
  · simpa [ifZero_of_not_zero hzero] using hzero

/-- The cases of R81. -/
theorem exists_decode_eq_error_iff {w : Word} :
    (∃ e, decode w = .error e) ↔
      (opField w = 0x00 ∨ 0x08 ≤ opField w) ∨
      (opField w = 0x01 ∧ (mdlenField w ≠ 0 ∨ rsvField w ≠ 0 ∨ iterField w ≠ 0)) ∨
      (opField w = 0x02 ∧ (nrField w ≠ 0 ∨ rsvField w ≠ 0 ∨ iterField w ≠ 0)) ∨
      (opField w = 0x03 ∧ (nrField w ≠ 0 ∨ rsvField w ≠ 0)) ∨
      (0x04 ≤ opField w ∧ opField w ≤ 0x07 ∧
        (mdlenField w ≠ 0 ∨ nrField w ≠ 0 ∨ rsvField w ≠ 0 ∨ iterField w ≠ 0)) := by
  unfold decode
  split
  case h_8 =>
    have hreserved : opField w = 0x00 ∨ 0x08 ≤ opField w := by grind
    exact ⟨fun _ => .inl hreserved, fun _ => ⟨_, rfl⟩⟩
  all_goals
    rename_i hop
    simp [exists_ifZero_eq_error_iff, hop]

end Sys2Proof
end

section
/-! SUPPORT. The opcode map (rule R72): the row of each command, and the words that match it. -/

namespace Sys2Proof

/-- The mask and the match of the command's row in R72. -/
def Instr.row : Instr → Word × Word
  | .permute _ => (0xFFFFFFFFFF00FFFF, 0x0000000000000001)
  | .hash _ => (0xFFFFFFFFFFFF00FF, 0x0000000000000002)
  | .hashi _ _ => (0x00000000FFFF00FF, 0x0000000000000003)
  | .sum224 => (0xFFFFFFFFFFFFFFFF, 0x0000000000000004)
  | .sum256 => (0xFFFFFFFFFFFFFFFF, 0x0000000000000005)
  | .sum384 => (0xFFFFFFFFFFFFFFFF, 0x0000000000000006)
  | .sum512 => (0xFFFFFFFFFFFFFFFF, 0x0000000000000007)

/-! ### The table -/

theorem Instr.row_mem_opcodeRows (i : Instr) : i.row ∈ opcodeRows := by
  cases i <;> simp [Instr.row, opcodeRows]

theorem exists_row_of_mem_opcodeRows {r : Word × Word} (hr : r ∈ opcodeRows) : ∃ i : Instr, i.row = r := by
  have htable : opcodeRows =
      [.permute 0, .hash 0, .hashi 0 0, .sum224, .sum256, .sum384, .sum512].map Instr.row := rfl
  obtain ⟨i, -, hi⟩ := List.mem_map.mp (htable ▸ hr)
  exact ⟨i, hi⟩

/-- Every row fixes the field `OP`. -/
theorem opField_eq_of_row {r : Word × Word} (hr : r ∈ opcodeRows) {w : Word} (hw : w &&& r.1 = r.2) :
    opField w = opField r.2 := by
  have hmask : ∀ r ∈ opcodeRows, bitField r.1 0 8 = 2 ^ 8 - 1 := by simp [opcodeRows, bitField]
  rw [← hw, opField, opField, bitField_and_of_ones (hmask r hr)]

theorem opcodeRows_pairwise_opField : opcodeRows.Pairwise fun r q => opField r.2 ≠ opField q.2 := by decide

/-! ### Words that match a row -/

/-- The mask of a row keeps the field `OP` and the fields that opcode does not use, and the match has the opcode and
zeros there. -/
theorem and_row_eq_iff_fields (w : Word) (i : Instr) :
    w &&& i.row.1 = i.row.2 ↔ opField w = i.opcode ∧ ∀ x ∈ i.unusedFields w, x = 0 := by
  rw [word_eq_iff_fields]
  cases i
  all_goals
    simp (disch := decide) only [Instr.row, opField, mdlenField, nrField, rsvField, iterField, bitField_and_of_ones,
      bitField_and_of_zero]
    simp [bitField, Instr.opcode, Instr.unusedFields, mdlenField, nrField, rsvField, iterField]

theorem and_row_eq_iff_decode (w : Word) (i : Instr) :
    w &&& i.row.1 = i.row.2 ↔ decode w = .ok (i.withOperandsOf w) := by
  rw [and_row_eq_iff_fields, decode_eq_ok_iff_fields]
  simp

/-- A word decodes to a command exactly when it matches a row. -/
theorem exists_decode_eq_ok_iff (w : Word) :
    (∃ i, decode w = .ok i) ↔ ∃ r ∈ opcodeRows, w &&& r.1 = r.2 := by
  constructor
  · rintro ⟨i, hi⟩
    obtain ⟨hop, hzero, -⟩ := decode_eq_ok_iff_fields.mp hi
    exact ⟨i.row, i.row_mem_opcodeRows, (and_row_eq_iff_fields w i).mpr ⟨hop, hzero⟩⟩
  · rintro ⟨r, hr, hw⟩
    obtain ⟨i, rfl⟩ := exists_row_of_mem_opcodeRows hr
    exact ⟨_, (and_row_eq_iff_decode w i).mp hw⟩

theorem exists_decode_eq_error_iff_not_ok (w : Word) :
    (∃ e, decode w = .error e) ↔ ¬ ∃ i, decode w = .ok i := by
  cases decode w <;> simp

end Sys2Proof
end

section
/-! SUPPORT. The statements on the command word: the opcode map (R72), the illegal words (R81), the words of the
commands with operands (R73 to R75) and of the SUM commands (R76 to R79). -/

namespace Sys2Proof.Machine

/-- Settles O3: each row by `and_row_eq_iff_decode`; two rows fix different values of `OP`. -/
theorem opcodeMapByMaskAndMatch : Obligations.OpcodeMapByMaskAndMatch := by
  refine ⟨fun w => ?rows, fun w => ?illegal, ?disjoint⟩
  case rows =>
    have hrow := and_row_eq_iff_decode w
    exact ⟨hrow (.permute 0), hrow (.hash 0), hrow (.hashi 0 0), hrow .sum224, hrow .sum256, hrow .sum384,
      hrow .sum512⟩
  case illegal =>
    rw [exists_decode_eq_error_iff_not_ok, exists_decode_eq_ok_iff]
    push Not
    rfl
  case disjoint =>
    refine opcodeRows_pairwise_opField.imp_of_mem fun hr hq hop w ⟨hwr, hwq⟩ => hop ?_
    rw [← opField_eq_of_row hr hwr, opField_eq_of_row hq hwq]

/-- Settles O4: the cases of `exists_decode_eq_error_iff`, and `issue` on a word that does not decode. -/
theorem illegalWordsRaiseInvalidCommand : Obligations.IllegalWordsRaiseInvalidCommand := by
  refine ⟨fun w => exists_decode_eq_error_iff, fun w e wait s h => ⟨?next, rfl⟩, .reservedOpcode, by decide⟩
  rw [issue, h]

/-- Settles O5: the fields of each encoded command, and the example words by evaluation. -/
theorem fieldsOfOperandCommands : Obligations.FieldsOfOperandCommands := by
  refine ⟨fun nr hnr => ?permute, fun m hm => fields_encode_hash hm, fun m hm k hk => fields_encode_hashi hm hk,
    by decide⟩
  obtain ⟨hop, hmdlen, hnr, hrest⟩ := fields_encode_permute hnr
  exact ⟨hop, hnr, hmdlen, hrest⟩

/-- Settles O6: a command without operands has one word, by `decode_eq_ok_iff_eq_encode`. -/
theorem sumCommandsAreSingleWords : Obligations.SumCommandsAreSingleWords := by
  refine ⟨fun w => ⟨?_, ?_, ?_, ?_⟩, by decide⟩
  all_goals exact decode_eq_ok_iff_eq_encode rfl w

end Sys2Proof.Machine
end

section
/-! SUPPORT. Rho+Pi (rules R106 and R107): which lanes a walk rewrites and with what, and the walk of the tables as the
closed form. -/

namespace Sys2Proof.Machine

/-! ### A walk through the lanes -/

theorem lane_foldl_rhoPiTurn_of_not_mem {walk : List (Fin 25 × Nat)} {i : Nat} (hi : ∀ w ∈ walk, i ≠ w.1.val)
    (A : Lanes) (T : Word) : lane (walk.foldl rhoPiTurn (A, T)).1 i = lane A i := by
  induction walk generalizing A T with
  | nil => rfl
  | cons w walk ih =>
    obtain ⟨hw, hwalk⟩ := List.forall_mem_cons.mp hi
    rw [List.foldl_cons, rhoPiTurn, ih hwalk, lane_set, if_neg hw]

/-- A walk that visits no lane twice writes each lane once, at its own turn `t`, with the value the lane of the turn
before had at the start: no earlier turn has written that one. -/
theorem lane_foldl_rhoPiTurn_getElem {walk : List (Fin 25 × Nat)} (hnodup : (walk.map Prod.fst).Nodup) (A : Lanes)
    (T : Word) {t : Nat} (ht : t < walk.length) :
    lane (walk.foldl rhoPiTurn (A, T)).1 walk[t].1 =
      rotl64 (if t = 0 then T else lane A walk[t - 1].1) walk[t].2 := by
  induction walk generalizing A T t with
  | nil => cases ht
  | cons w walk ih =>
    rw [List.map_cons, List.nodup_cons] at hnodup
    obtain ⟨hfresh, hnodup⟩ := hnodup
    have hne : ∀ v ∈ walk, v.1.val ≠ w.1.val := fun v hv h =>
      hfresh (List.mem_map.mpr ⟨v, hv, Fin.ext h⟩)
    rw [List.foldl_cons, rhoPiTurn]
    match t with
    | 0 =>
      rw [List.getElem_cons_zero, lane_foldl_rhoPiTurn_of_not_mem fun v hv => (hne v hv).symm, lane_set]
      simp
    | 1 => exact ih hnodup _ _ (Nat.lt_of_succ_lt_succ ht)
    | t + 2 =>
      have hturn : t + 1 < walk.length := Nat.lt_of_succ_lt_succ ht
      have hkept : lane (A.set w.1 (rotl64 T w.2)) walk[t].1 = lane A walk[t].1 := by
        rw [lane_set, if_neg (hne _ (List.getElem_mem _))]
      calc _ = rotl64 (lane (A.set w.1 (rotl64 T w.2)) walk[t].1) walk[t + 1].2 :=
            ih hnodup _ _ hturn
        _ = rotl64 (lane A walk[t].1) walk[t + 1].2 := by rw [hkept]

/-! ### The walk of the tables -/

theorem rhoPiWalk_nodup : (rhoPiWalk.map Prod.fst).Nodup := by decide

theorem rhoPiWalk_ne_zero : ∀ w ∈ rhoPiWalk, 0 ≠ w.1.val := by decide

theorem rhoPiWalk_getElem {t : Nat} (ht : t < rhoPiWalk.length) :
    rhoPiWalk[t] = (laneWalk.getD t 0, rotationOffsets.getD t 0) := by
  have hlane : t < laneWalk.length := ht
  have hoffset : t < rotationOffsets.length := ht
  simp [rhoPiWalk, hlane, hoffset]

/-- `src(t)` of R107, the lane that turn `t` moves. -/
def rhoPiSource (t : Nat) : Nat := if t = 0 then 1 else (laneWalk.getD (t - 1) 0).val

theorem lane_rhoPi_zero (A : Lanes) : lane (rhoPi A) 0 = lane A 0 :=
  lane_foldl_rhoPiTurn_of_not_mem rhoPiWalk_ne_zero A _

theorem lane_rhoPi_laneWalk (A : Lanes) {t : Nat} (ht : t < 24) :
    lane (rhoPi A) (laneWalk.getD t 0).val = rotl64 (lane A (rhoPiSource t)) (rotationOffsets.getD t 0) := by
  have hlength : t < rhoPiWalk.length := ht
  have hturn := lane_foldl_rhoPiTurn_getElem rhoPiWalk_nodup A (lane A 1) hlength
  simp only [rhoPiWalk_getElem] at hturn
  rw [rhoPi, hturn, rhoPiSource, apply_ite (lane A)]

/-! ### The table of moves -/

/-- Each row of the table of R107 is one turn of the walk. -/
theorem exists_turn_of_mem_rhoPiMoves :
    ∀ m ∈ rhoPiMoves, ∃ t < 24, m = ((laneWalk.getD t 0).val, rhoPiSource t, rotationOffsets.getD t 0) := by
  decide

theorem rhoPiMoves_destination_source_unique :
    ∀ i < 25, 1 ≤ i →
      (rhoPiMoves.filter (·.1 == i)).length = 1 ∧ (rhoPiMoves.filter (·.2.1 == i)).length = 1 := by decide

theorem lane_rhoPi_of_mem_rhoPiMoves (A : Lanes) {m : Nat × Nat × Nat} (hm : m ∈ rhoPiMoves) :
    lane (rhoPi A) m.1 = rotl64 (lane A m.2.1) m.2.2 := by
  obtain ⟨t, ht, rfl⟩ := exists_turn_of_mem_rhoPiMoves m hm
  exact lane_rhoPi_laneWalk A ht

/-- Settles O11: the walk writes each lane once (`lane_foldl_rhoPiTurn_getElem`), and each row of the table is one of
its turns. -/
theorem rhoPiEqualsItsClosedForm : Obligations.RhoPiEqualsItsClosedForm := by
  refine ⟨fun A => ⟨lane_rhoPi_zero A, fun t => lane_rhoPi_laneWalk A, fun m => lane_rhoPi_of_mem_rhoPiMoves A⟩,
    fun i hlow hhigh => ?unique, ?coordinates⟩
  case unique => exact rhoPiMoves_destination_source_unique i (Nat.lt_succ_of_le hhigh) hlow
  case coordinates => decide

end Sys2Proof.Machine
end

section
/-! SUPPORT. Iota (rule R109): the lanes of its result. -/

namespace Sys2Proof.Machine

theorem lane_iota (A : Lanes) (r i : Nat) :
    lane (iota A r) i = if i = 0 then lane A 0 ^^^ roundConstant r else lane A i :=
  lane_set A 0 _ i

theorem roundConstant_eq_getElem {r : Nat} (hr : r < roundConstants.length) : roundConstant r = roundConstants[r] :=
  List.getD_eq_getElem _ _ hr

/-- Settles O13: lane 0 and the others are the two cases of `lane_iota`; the examples by evaluation. -/
theorem iotaChangesOnlyLaneZero : Obligations.IotaChangesOnlyLaneZero := by
  refine ⟨fun A r hr => ⟨?laneZero, fun i hi _ => ?others⟩, by decide⟩
  case laneZero => rw [lane_iota, if_pos rfl, roundConstant_eq_getElem]
  case others => rw [lane_iota, if_neg (Nat.ne_of_gt hi)]

end Sys2Proof.Machine
end

section
/-! SUPPORT. Refused and accepted commands (rules R180 to R189): which check fails when, what a refused command leaves,
which flags a run keeps, and the run of a started permutation. -/

namespace Sys2Proof.Machine

/-! ### The checks -/

/-- R6: the four digest lengths. -/
theorem legalMdlen_iff {m : Nat} : legalMdlen m = true ↔ m = 28 ∨ m = 32 ∨ m = 48 ∨ m = 64 := by
  simp [legalMdlen, or_assoc]

/-- R182, the first check (R186): it decides alone whether `InvalidDigestLength` is reported. -/
theorem hashCheck_eq_invalidDigestLength_iff {s : State} {m k : Nat} :
    s.hashCheck m k = some .invalidDigestLength ↔ legalMdlen m = false := by
  unfold State.hashCheck
  split_ifs <;> simp_all

/-- R185, the second check (R186): it is reached with a legal digest length only, and before the window is looked at. -/
theorem hashCheck_zero_iterations (s : State) {m : Nat} (hm : legalMdlen m = true) :
    s.hashCheck m 0 = some .invalidIterations := by
  simp [State.hashCheck, hm]

/-- R184. -/
theorem permuteCheck_above {nr : Nat} (hnr : 24 < nr) : permuteCheck nr = some .invalidRounds :=
  if_neg (Nat.not_le.mpr hnr)

/-- R183: of the state, the checks see the input window and nothing else. -/
theorem refusalOf_congr {s t : State} (hwindow : t.windowFits = s.windowFits) (i : Instr) :
    refusalOf i t = refusalOf i s := by
  cases i with
  | permute nr => rfl
  | hash | hashi | sum224 | sum256 | sum384 | sum512 => simp only [refusalOf, State.hashCheck, hwindow]

/-- R180: no two errors share a code. -/
theorem CmdError.code_injective : Function.Injective CmdError.code := by
  intro e f
  cases e <;> cases f <;> decide

/-! ### Refused commands -/

/-- R188: with nothing started there is nothing to run, and a refused command is the recording of its error. -/
theorem exec_refused {i : Instr} {s : State} {e : CmdError} (hbusy : s.busy = false) (he : refusalOf i s = some e) :
    exec i s = .next (s.recordError e) := by
  rw [exec_eq_start, startCommand_refused he, State.finish_not_busy (s := s.recordError e) hbusy]

theorem issue_illegal {w : Word} {r : Illegal} (hw : decode w = .error r) (wait : Bool) (s : State) :
    issue w wait s = .next (s.recordError .invalidCommand) := by
  rw [issue, hw]

theorem issue_refused {w : Word} {i : Instr} {s : State} {e : CmdError} (hw : decode w = .ok i)
    (he : refusalOf i s = some e) (hbusy : s.busy = false) (wait : Bool) :
    issue w wait s = .next (s.recordError e) := by
  rw [issue, hw]
  cases wait with
  | false => exact congrArg _ (startCommand_refused he)
  | true => exact exec_refused hbusy he

/-! ### Accepted commands -/

/-- A running command raises no error and clears none. -/
theorem State.advance_error (s : State) : s.advance.err = s.err ∧ s.advance.ecode = s.ecode := by
  cases hbusy : s.busy with
  | false => rw [State.advance_not_busy hbusy]; exact ⟨rfl, rfl⟩
  | true =>
    cases hphase : s.phase with
    | idle => simp [State.advance, hphase]
    | perm =>
      rw [State.advance_perm hbusy hphase, State.permStep]
      split <;> simp
    | init => simp [State.advance_init hbusy hphase, State.initStep]
    | absorb =>
      rcases Nat.lt_or_ge s.rem s.rsiz with htail | hfull
      · simp [State.advance_absorb_tail hbusy hphase htail]
      · simp [State.advance_absorb_full hbusy hphase hfull, State.absorbFull]
    | pad => simp [State.advance_pad hbusy hphase]
    | final => simp [State.advance_final hbusy hphase, State.absorbFinal]
    | squeeze => simp [State.advance_squeeze hbusy hphase]
    | next =>
      rw [State.advance_next hbusy hphase, State.nextStep]
      split <;> simp

theorem State.run_error (n : Nat) (s : State) : (State.run n s).err = s.err ∧ (State.run n s).ecode = s.ecode := by
  induction n generalizing s with
  | zero => exact ⟨rfl, rfl⟩
  | succ n ih =>
    rw [State.run_succ, (ih s.advance).1, (ih s.advance).2]
    exact s.advance_error

/-- R189: the start of an accepted command does not touch the error flags. -/
theorem startCommand_error {i : Instr} {s : State} (hi : refusalOf i s = none) :
    (startCommand i s).err = s.err ∧ (startCommand i s).ecode = s.ecode := by
  cases i with
  | permute nr =>
    have hnr : nr ≤ 24 := Nat.not_lt.mp fun h => by simp [refusalOf, permuteCheck_above h] at hi
    rw [startCommand_permute s hnr]
    exact ⟨rfl, rfl⟩
  | hash | hashi | sum224 | sum256 | sum384 | sum512 =>
    rw [startCommand_hash rfl hi]
    exact ⟨rfl, rfl⟩

/-- The two ends of a command on an idle block: refused with the error of its first failing check (R188), or accepted,
with the error flags as they were (R190). -/
theorem exec_cases {i : Instr} {s t : State} (hbusy : s.busy = false) (ht : exec i s = .next t) :
    (∃ e, refusalOf i s = some e ∧ t = s.recordError e) ∨
      (refusalOf i s = none ∧ t.err = s.err ∧ t.ecode = s.ecode) := by
  cases hi : refusalOf i s with
  | some e =>
    rw [exec_refused hbusy hi] at ht
    exact .inl ⟨e, rfl, (Host.Outcome.next.inj ht).symm⟩
  | none =>
    rw [exec_eq_start] at ht
    obtain rfl := Host.Outcome.next.inj ht
    obtain ⟨herr, hecode⟩ := startCommand_error hi
    obtain ⟨herrRun, hecodeRun⟩ := State.run_error (startCommand i s).stepsLeft (startCommand i s)
    exact .inr ⟨rfl, herrRun.trans herr, hecodeRun.trans hecode⟩

/-- R113, R190: a permutation with `n` rounds to go runs them, and one step more completes it. -/
theorem State.run_perm {s : State} {n : Nat} (hbusy : s.busy = true) (hphase : s.phase = .perm)
    (hn : s.nrl = s.rnd + n) : State.run (n + 1) s = (State.rounds n s).complete := by
  induction n generalizing s with
  | zero =>
    have hstep : s.advance = s.complete := by
      rw [State.advance_perm hbusy hphase, State.permStep, if_neg (by omega)]
    exact hstep
  | succ n ih =>
    have hstep : s.advance = s.roundStep := by
      rw [State.advance_perm hbusy hphase, State.permStep, if_pos (by omega)]
    rw [State.run_succ, hstep, State.rounds]
    exact ih hbusy hphase (by simp only [State.roundStep_nrl, State.roundStep_rnd]; omega)

theorem exec_permute {nr : Nat} (hnr : nr ≤ 24) (s : State) :
    exec (.permute nr) s = .next (State.rounds nr (s.startPermute nr)).complete := by
  rw [exec_eq_start, startCommand_permute s hnr]
  exact congrArg _ (State.run_perm rfl rfl (Nat.zero_add nr).symm)

end Sys2Proof.Machine
end

section
/-! SUPPORT. The statements on the command errors: `InvalidRounds` (R184), `InvalidDigestLength` (R182),
`InvalidIterations` (R185), and the effect of every refusal (R188). -/

namespace Sys2Proof.Machine

/-- Settles O22: above the bound by `exec_refused`, up to it by the completed run of `exec_permute`. -/
theorem permuteRefusedAboveTwentyFour : Obligations.PermuteRefusedAboveTwentyFour := by
  intro nr s hbusy herr
  refine ⟨fun hnr => ⟨exec_refused hbusy (permuteCheck_above hnr), rfl⟩,
    fun hnr => ⟨_, exec_permute hnr s, rfl, ?noError⟩⟩
  rw [State.complete_err, State.rounds_err]
  exact herr

/-- R182, R183, R185: with a legal digest length a hash command reports another error or none. -/
theorem exec_hash_not_invalidDigestLength {i : Instr} {s t : State} {m k : Nat} (hbusy : s.busy = false)
    (herr : s.err = false) (ht : exec i s = .next t) (hi : hashOperands i = some (m, k)) (hm : legalMdlen m = true) :
    ¬ (t.err = true ∧ t.ecode = 1) := by
  rintro ⟨hset, hcode⟩
  obtain ⟨e, he, rfl⟩ | ⟨-, hkept, -⟩ := exec_cases hbusy ht
  · obtain rfl : e = .invalidDigestLength := CmdError.code_injective hcode
    rw [refusalOf_hash hi, hashCheck_eq_invalidDigestLength_iff, hm] at he
    cases he
  · rw [hkept, herr] at hset
    cases hset

/-- Settles O27: an illegal length fails the first check; legal lengths and the SUM commands by
`exec_hash_not_invalidDigestLength`. -/
theorem invalidDigestLengthRaised : Obligations.InvalidDigestLengthRaised := by
  intro s hbusy herr
  refine ⟨fun m k hm => ?illegal, fun m k t hm ht => ?legal, fun t ht => ?sums⟩
  case illegal =>
    have hcheck (n : Nat) : s.hashCheck m n = some .invalidDigestLength :=
      hashCheck_eq_invalidDigestLength_iff.mpr (Bool.eq_false_iff.mpr (mt legalMdlen_iff.mp hm))
    exact ⟨exec_refused hbusy (hcheck 1), exec_refused hbusy (hcheck k), rfl⟩
  case legal =>
    rcases ht with ht | ht
    all_goals exact exec_hash_not_invalidDigestLength hbusy herr ht rfl (legalMdlen_iff.mpr hm)
  case sums =>
    rcases ht with ht | ht | ht | ht
    all_goals exact exec_hash_not_invalidDigestLength hbusy herr ht rfl rfl

/-- Settles O28: the second check fails, and a refused command records its error. -/
theorem invalidIterationsRaised : Obligations.InvalidIterationsRaised := fun _ s hbusy hm =>
  ⟨exec_refused hbusy (hashCheck_zero_iterations s hm), rfl⟩

/-- Settles O32: the word is latched, and the latched block is refused as the idle one would be, because latching
leaves the input window alone. -/
theorem refusedCommandTouchesOnlyStatusAndCmd : Obligations.RefusedCommandTouchesOnlyStatusAndCmd := by
  intro s w wait rest e hbusy he
  rw [step_withIssue, hostTurn_issue (s := { s with events := rest }) hbusy]
  cases hw : decode w with
  | error r =>
    obtain rfl : .invalidCommand = e := by simpa [hw] using he
    exact issue_illegal hw wait _
  | ok i =>
    have hi : refusalOf i s = some e := by simpa [hw] using he
    have hlatched : refusalOf i ((({ s with events := rest } : State).latch w).withAnswer .ok) = some e :=
      (refusalOf_congr rfl i).trans hi
    exact issue_refused hw hlatched hbusy wait

end Sys2Proof.Machine
end

section
/-! SUPPORT. The reset input (rules R37 and R210): the registers it leaves, and the idle block's open host port. -/

namespace Sys2Proof.Machine

/-! ### The state after a reset -/

theorem State.digByte_afterReset (msgSize resets : Nat) (events : List Event) {b : Nat} (hb : b < 64) :
    (State.afterReset msgSize resets events).digByte b = 0 := by
  rw [State.digByte_eq_getElem _ hb]
  exact Vector.getElem_replicate hb

theorem State.statusWord_afterReset (msgSize resets : Nat) (events : List Event) :
    (State.afterReset msgSize resets events).statusWord = 0 := rfl

/-! ### The reset step and what the host may do after it -/

theorem step_reset (s : State) (rest : List Event) :
    step { s with events := .reset :: rest } = .next (State.afterReset s.msgSize (s.resets + 1) rest) := rfl

/-- R58: the busy lock does not bind an idle block. -/
theorem allows_idle {s : State} (hbusy : s.busy = false) (t : Transaction) : s.allows t = s.spaceAllows t := by
  simp [State.allows, hbusy]

/-- Settles O59: the step ends in `State.afterReset`, whatever the state before, and that state is idle. -/
theorem resetInputFromAnyState : Obligations.ResetInputFromAnyState := by
  intro s rest
  refine ⟨_, step_reset s rest, rfl, rfl, ?status, rfl, rfl, rfl, rfl, rfl, fun b hb => ?digest, rfl, ?port⟩
  case status => exact State.statusWord_afterReset _ _ _
  case digest => exact State.digByte_afterReset _ _ _ hb
  case port => exact allows_idle rfl

end Sys2Proof.Machine
end

section
/-! SUPPORT. The statements on decoding (rules R70 to R84): the decoder and the encoder undo each other. -/

namespace Sys2Proof.Machine

/-- Settles O1: `decode_encode`, the fields of the encoded word read back one by one. -/
theorem decodeOfEncodedCommand : Obligations.DecodeOfEncodedCommand := fun _ hi => decode_encode hi

/-- Settles O2: the operands of a decoded command are fields of the word, and the other fields are zero. -/
theorem encodeOfDecodedWord : Obligations.EncodeOfDecodedWord := fun _ _ h =>
  ⟨wellFormed_of_decode h, encode_of_decode h⟩

/-- Settles O7: the listed words, by evaluation of the decoder. -/
theorem specWordsDecodeAsListed : Obligations.SpecWordsDecodeAsListed := by
  unfold Obligations.SpecWordsDecodeAsListed
  decide

end Sys2Proof.Machine
end

section
/-! SUPPORT. The permutation (rules R101 to R111): the tables against the formulas that generate them, Theta and Chi
lane by lane, and the rounds of `KeccakP` as a fold. -/

namespace Sys2Proof.Machine

/-! ### The tables -/

/-- R103: every lane but lane 0 stands on the walk once. -/
theorem laneWalk_visits_each_once : laneWalk.Nodup ∧ ∀ i : Fin 25, i ∈ laneWalk ↔ i ≠ 0 := by decide

/-- R101: the seven bits a round constant may have, from the shift register. -/
theorem roundConstants_bits : ∀ i < 24, ∀ j < 7,
    (roundConstants.getD i 0).getLsbD (2 ^ j - 1) = (shiftRegister^[j + 7 * i] 1).testBit 0 := by decide +kernel

theorem roundConstants_mask : ∀ c ∈ roundConstants, c &&& ~~~ 0x800000008000808B = 0 := by
  simp [roundConstants, roundConstantRows]

/-- Settles O9: each formula is evaluated at every entry of its table. -/
theorem constantTablesMeetTheirFormulas : Obligations.ConstantTablesMeetTheirFormulas := by
  refine ⟨?offsets, ?walk, laneWalk_visits_each_once, rfl, roundConstants_bits, roundConstants_mask⟩
  case offsets => decide
  case walk => decide

/-! ### Theta -/

/-- R105. -/
theorem lane_theta (A : Lanes) {i : Nat} (hi : i < 25) :
    lane (theta A) i = lane A i ^^^ columnCorrection A (i % 5) := by
  rw [theta, lane_tabulate, if_pos hi]

theorem lane_replicate (v : Word) {i : Nat} (hi : i < 25) : lane (Vector.replicate 25 v) i = v := by
  rw [lane_eq_getElem _ hi, Vector.getElem_replicate]

/-- Five equal lanes have the parity of one. -/
theorem columnParity_replicate (v : Word) {x : Nat} (hx : x < 5) : columnParity (Vector.replicate 25 v) x = v := by
  simp only [columnParity]
  rw [lane_replicate v (by omega), lane_replicate v (by omega), lane_replicate v (by omega),
    lane_replicate v (by omega), lane_replicate v (by omega)]
  simp

/-- With all lanes equal the lane cancels against the parity before, and the rotated parity after remains. -/
theorem theta_replicate (v : Word) : theta (Vector.replicate 25 v) = Vector.replicate 25 (rotl64 v 1) := by
  refine lanes_ext fun i hi => ?_
  rw [lane_theta _ hi, lane_replicate _ hi, lane_replicate _ hi, columnCorrection,
    columnParity_replicate v (Nat.mod_lt _ (by decide)), columnParity_replicate v (Nat.mod_lt _ (by decide)),
    ← BitVec.xor_assoc, BitVec.xor_self, BitVec.zero_xor]

/-- Settles O10: the lanes by `lane_theta`, the zero state as a state of equal lanes, the spec's example by
evaluation. -/
theorem thetaAddsTwoColumnParities : Obligations.ThetaAddsTwoColumnParities := by
  refine ⟨fun A x y hx hy => ?lanes, ?zero, theta_replicate, by decide⟩
  case lanes =>
    have hcolumn : (x + 5 * y) % 5 = x := by omega
    have hlane := lane_theta A (show x + 5 * y < 25 by omega)
    rw [hcolumn] at hlane
    exact hlane
  case zero => exact theta_replicate 0

/-! ### Chi -/

/-- R108. -/
theorem lane_chi (A : Lanes) {x y : Nat} (hx : x < 5) (hy : y < 5) :
    lane (chi A) (5 * y + x) =
      lane A (5 * y + x) ^^^ (~~~ lane A (5 * y + (x + 1) % 5) &&& lane A (5 * y + (x + 2) % 5)) := by
  have hrow : (5 * y + x) / 5 = y := by omega
  have hcolumn : (5 * y + x) % 5 = x := by omega
  rw [chi, lane_tabulate, if_pos (by omega), hrow, hcolumn]

/-- Settles O12: of a row of equal lanes, or of two states that agree on the row, `lane_chi` sees the five lanes
only. -/
theorem chiWorksRowByRow : Obligations.ChiWorksRowByRow := by
  refine ⟨fun A x y => lane_chi A, fun A y v hy hv hrow x hx => ?constant, fun A B y hy hrow x hx => ?rowOnly,
    by decide⟩
  all_goals
    have hnext : (x + 1) % 5 < 5 := Nat.mod_lt _ (by decide)
    have hsecond : (x + 2) % 5 < 5 := Nat.mod_lt _ (by decide)
  case constant =>
    rw [lane_chi A hx hy, hrow x hx, hrow _ hnext, hrow _ hsecond]
    rcases hv with rfl | rfl
    · rfl
    · simp
  case rowOnly =>
    rw [lane_chi A hx hy, lane_chi B hx hy, hrow x hx, hrow _ hnext, hrow _ hsecond]

/-! ### The rounds -/

/-- R111: the rounds from `m` on continue the first `m`. -/
theorem keccakP_add (A : Lanes) (m n : Nat) :
    keccakP A (m + n) = (List.range' m n).foldl keccakRound (keccakP A m) := by
  rw [← keccakP_eq_foldl_range' A m, ← List.foldl_append, ← keccakP_eq_foldl_range', ← List.range'_append]
  simp

/-- Settles O14: both clauses are `keccakP_add`, the first with no round done yet. -/
theorem keccakPRunsTheFirstRounds : Obligations.KeccakPRunsTheFirstRounds := by
  refine ⟨fun A nr => ?fold, keccakP_add⟩
  rw [List.range_eq_range', keccakP_eq_foldl_range']

/-- Vector KP2. -/
theorem keccakP_zeroLanes_two :
    [0, 1, 20].map (lane (keccakP zeroLanes 2)) = [0x0000000000008083, 0x0000100000000000, 0x0000010000000000] := by
  decide +kernel

/-- Vector KP24. -/
theorem keccakF_zeroLanes :
    [0, 24].map (lane (keccakF zeroLanes)) = [0xF1258F7940E1DDE7, 0xEAF1FF7B5CECA249] := by decide +kernel

/-- Settles O15: two and twenty-four rounds on the zero state. -/
theorem zeroStateKnownAnswer : Obligations.ZeroStateKnownAnswer := by
  have htwo := keccakP_zeroLanes_two
  have hall := keccakF_zeroLanes
  simp only [List.map_cons, List.map_nil, List.cons.injEq, and_true] at htwo hall
  obtain ⟨hzero, hone, htwenty⟩ := htwo
  exact ⟨hzero, hone, htwenty, hall⟩

end Sys2Proof.Machine
end

section
/-! SUPPORT. Padding and squeezing (rules R130, R134 and R136): the rates, the bytes of the padded block, the pad step
and the squeeze step. -/

namespace Sys2Proof.Machine

/-! ### The rates -/

/-- R130, R6. -/
theorem rate_of_legal {m : Nat} (hm : legalMdlen m = true) :
    rate m % 8 = 0 ∧ m < rate m ∧ rate m + 2 * m = 200 ∧ rate m ≤ 144 := by
  rcases legalMdlen_iff.mp hm with rfl | rfl | rfl | rfl <;> decide

theorem lt_rate_of_legal {m : Nat} (hm : legalMdlen m = true) : m < rate m := (rate_of_legal hm).2.1

theorem legalMdlen_le {m : Nat} (hm : legalMdlen m = true) : m ≤ 64 := by
  rcases legalMdlen_iff.mp hm with rfl | rfl | rfl | rfl <;> decide

/-- Settles O16: the four rates, and the same lengths in `rate_of_legal`. -/
theorem rateOfEachDigestLength : Obligations.RateOfEachDigestLength :=
  ⟨rfl, rfl, rfl, rfl, fun _ => rate_of_legal⟩

/-! ### Byte lists by their bytes -/

theorem byteList_ext {B C : List Byte} (hlength : B.length = C.length) (h : ∀ j < B.length, B.getD j 0 = C.getD j 0) :
    B = C := by
  refine List.ext_getElem hlength fun j hB hC => ?_
  have hj := h j hB
  rwa [List.getD_eq_getElem _ _ hB, List.getD_eq_getElem _ _ hC] at hj

theorem getD_take_of_lt (B : List Byte) {n j : Nat} (hj : j < n) : (B.take n).getD j 0 = B.getD j 0 := by
  simp [List.getD_eq_getElem?_getD, hj]

theorem getD_replicate_zero (n j : Nat) : (List.replicate n (0 : Byte)).getD j 0 = 0 := by
  by_cases hj : j < n <;> simp [List.getD_eq_getElem?_getD, hj]

/-! ### The padded block -/

/-- Byte `j` of the tail, the separator and the zeros, before the last byte of the block is marked (R134). -/
def unmarkedByte (tail : List Byte) (j : Nat) : Byte :=
  if j < tail.length then tail.getD j 0 else if j = tail.length then 0x06 else 0x00

theorem getD_unmarked (tail : List Byte) (n j : Nat) :
    (tail ++ [0x06] ++ List.replicate n 0x00).getD j 0 = unmarkedByte tail j := by
  rw [unmarkedByte, List.append_assoc]
  split_ifs with hin hat
  · exact List.getD_append _ _ _ _ hin
  · subst hat
    simp
  · obtain ⟨d, rfl⟩ : ∃ d, j = tail.length + (d + 1) := ⟨j - tail.length - 1, by omega⟩
    rw [List.getD_append_right _ _ _ _ (by omega), Nat.add_sub_cancel_left]
    exact getD_replicate_zero n d

theorem unmarked_length {tail : List Byte} {rsiz : Nat} (h : tail.length < rsiz) :
    (tail ++ [0x06] ++ List.replicate (rsiz - tail.length - 1) (0x00 : Byte)).length = rsiz := by
  simp only [List.length_append, List.length_replicate, List.length_singleton]
  omega

theorem padBlock_length {tail : List Byte} {rsiz : Nat} (h : tail.length < rsiz) :
    (padBlock tail rsiz).length = rsiz := by
  simp only [padBlock, List.length_set, unmarked_length h]

/-- R134: the last byte of the block is marked with 0x80, whatever stands there. -/
theorem padBlock_getD {tail : List Byte} {rsiz : Nat} (h : tail.length < rsiz) (j : Nat) :
    (padBlock tail rsiz).getD j 0 =
      if j + 1 = rsiz then unmarkedByte tail j ||| 0x80 else unmarkedByte tail j := by
  simp only [padBlock, List.getD_eq_getElem?_getD, List.getElem?_set, unmarked_length h]
  simp only [← List.getD_eq_getElem?_getD, getD_unmarked]
  by_cases hj : j + 1 = rsiz
  · obtain rfl : rsiz - 1 = j := by omega
    simp [hj, show rsiz - 1 < rsiz by omega]
  · rw [if_neg (show ¬ rsiz - 1 = j by omega), if_neg hj, ← List.getD_eq_getElem?_getD, getD_unmarked]

/-- Settles O17: the length by `padBlock_length`, every byte by `padBlock_getD`. -/
theorem paddedBlockBytes : Obligations.PaddedBlockBytes := by
  intro tail rsiz h
  have hbyte := padBlock_getD h
  refine ⟨padBlock_length h, ?tail, fun hshort => ?oneByte,
    fun hlong => ⟨?separator, ?last, fun j hlow hhigh => ?zeros⟩⟩
  case tail =>
    refine byteList_ext ?_ fun j hj => ?_
    · rw [List.length_take, padBlock_length h, Nat.min_eq_left h.le]
    · rw [List.length_take, padBlock_length h, Nat.min_eq_left h.le] at hj
      rw [getD_take_of_lt _ hj, hbyte, if_neg (by omega), unmarkedByte, if_pos hj]
  case oneByte =>
    rw [hbyte, if_pos (by omega), unmarkedByte, if_neg (by omega), if_pos (by omega)]
    rfl
  case separator => rw [hbyte, if_neg (by omega), unmarkedByte, if_neg (by omega), if_pos rfl]
  case last =>
    rw [hbyte, if_pos (by omega), unmarkedByte, if_neg (by omega), if_neg (by omega)]
    rfl
  case zeros => rw [hbyte, if_neg (by omega), unmarkedByte, if_neg (by omega), if_neg (by omega)]

/-! ### The pad step -/

theorem State.blkByte_ge (s : State) {j : Nat} (hj : 144 ≤ j) : s.blkByte j = 0 := by
  simp [State.blkByte, List.getD_eq_getElem?_getD, hj]

/-- The first three assignments of the pad step write the tail, the separator and the zeros. -/
theorem State.unfinishedBlk_lt {s : State} {j : Nat} (hj : j < s.rsiz) :
    s.unfinishedBlk j = unmarkedByte (s.memRead s.src s.ptr s.rem) j := by
  rw [State.unfinishedBlk, unmarkedByte, State.memRead_length]
  split_ifs with hin
  · rw [State.memRead_getD _ _ _ hin]
  · rfl
  · rfl

theorem State.unfinishedBlk_ge {s : State} {j : Nat} (hrem : s.rem < s.rsiz) (hj : s.rsiz ≤ j) :
    s.unfinishedBlk j = s.blkByte j := by
  rw [State.unfinishedBlk, if_neg (by omega), if_neg (by omega), if_neg (by omega)]

/-- R134: the register transfers leave the padded block in the first `RSIZ` bytes of `BLK`. -/
theorem State.padStep_block {s : State} (hrem : s.rem < s.rsiz) (hrsiz : s.rsiz ≤ 144) :
    s.padStep.blk.toList.take s.rsiz = padBlock (s.memRead s.src s.ptr s.rem) s.rsiz := by
  have htail : (s.memRead s.src s.ptr s.rem).length < s.rsiz := by rwa [State.memRead_length]
  have hlength : (s.padStep.blk.toList.take s.rsiz).length = s.rsiz := by
    rw [List.length_take, Vector.length_toList, Nat.min_eq_left hrsiz]
  refine byteList_ext (hlength.trans (padBlock_length htail).symm) fun j hj => ?_
  rw [hlength] at hj
  calc (s.padStep.blk.toList.take s.rsiz).getD j 0
    _ = s.padStep.blkByte j := getD_take_of_lt _ hj
    _ = (padBlock (s.memRead s.src s.ptr s.rem) s.rsiz).getD j 0 := by
      rw [State.blkByte_padStep, if_pos (by omega), padBlock_getD htail, State.unfinishedBlk_lt hj]

/-- Settles O18: the block by `State.padStep_block`; above the rate the pad step writes back what it finds. -/
theorem padStepBuildsThePaddedBlock : Obligations.PadStepBuildsThePaddedBlock := by
  refine fun s hrem hrsiz => ⟨State.padStep_block hrem hrsiz, fun j hj => ?above, rfl⟩
  rw [State.blkByte_padStep]
  split_ifs with hin hlast
  · omega
  · exact State.unfinishedBlk_ge hrem hj
  · exact (State.blkByte_ge s (Nat.le_of_not_lt hin)).symm

/-! ### The squeeze step -/

theorem squeeze_length (A : Lanes) {m : Nat} (hm : m ≤ 64) : (squeeze A m).length = m := by
  rw [squeeze, List.length_take, stateBytes_length, Nat.min_eq_left (by omega)]

/-- R136: the digest followed by zeros, byte by byte. -/
theorem getD_squeeze_append (A : Lanes) {m : Nat} (hm : m ≤ 64) (b : Nat) :
    (squeeze A m ++ List.replicate (64 - m) 0x00).getD b 0 = if b < m then stateByte A b else 0x00 := by
  split_ifs with hb
  · rw [List.getD_append _ _ _ _ (by rwa [squeeze_length A hm]), squeeze, getD_take_of_lt _ hb, stateBytes_getD]
  · rw [List.getD_append_right _ _ _ _ (by rw [squeeze_length A hm]; omega), getD_replicate_zero]

theorem State.squeezeStep_digest {s : State} (hm : s.mdl ≤ 64) :
    s.squeezeStep.dig.toList = squeeze s.lanes s.mdl ++ List.replicate (64 - s.mdl) 0x00 := by
  have hlength : s.squeezeStep.dig.toList.length = 64 := Vector.length_toList
  refine byteList_ext ?_ fun b hb => ?_
  · rw [hlength, List.length_append, squeeze_length _ hm, List.length_replicate]
    omega
  · rw [hlength] at hb
    rw [getD_squeeze_append _ hm]
    refine (State.digByte_squeezeStep s b).trans ?_
    simp [hb]

/-- Settles O19: the digest by `State.squeezeStep_digest`; the step writes no other field. -/
theorem squeezeStepWritesTheDigest : Obligations.SqueezeStepWritesTheDigest := fun _ hm =>
  ⟨State.squeezeStep_digest hm, rfl⟩

end Sys2Proof.Machine
end

section
/-! SUPPORT. One pass of the engine (rules R131 to R138): the input read block by block, the full blocks absorbed, the
padded block, the digest. -/

namespace Sys2Proof.Machine

/-! ### Reads of the input -/

theorem State.memRead_drop (s : State) (q : Source) (a n d : Nat) :
    (s.memRead q a n).drop d = s.memRead q (a + d) (n - d) := by
  refine List.ext_getElem (by simp) fun j hj hj' => ?_
  rw [List.getElem_drop, State.memRead_getElem, State.memRead_getElem, Nat.add_assoc]

theorem State.memRead_take (s : State) (q : Source) (a : Nat) {n m : Nat} (hm : m ≤ n) :
    (s.memRead q a n).take m = s.memRead q a m := by
  refine List.ext_getElem (by simp [hm]) fun j hj hj' => ?_
  rw [List.getElem_take, State.memRead_getElem, State.memRead_getElem]

/-- Of the state, a read sees the memory it reads from. -/
theorem State.memRead_congr {s t : State} (hmsg : ∀ a, t.msgByte a = s.msgByte a) (hdig : t.dig = s.dig)
    (q : Source) (a n : Nat) : t.memRead q a n = s.memRead q a n := by
  have hbyte (b : Nat) : t.sourceByte q b = s.sourceByte q b := by
    cases q with
    | msg => exact hmsg b
    | dig => simp only [State.sourceByte, State.digByte, hdig]
  simp only [State.memRead, hbyte]

/-- R133: the lanes of a block of the input are the lanes loaded from where the block lies. -/
theorem blockLane_memRead (s : State) (q : Source) (a : Nat) {n i : Nat} (hi : 8 * i + 8 ≤ n) :
    blockLane (s.memRead q a n) i = s.loadLane q (a + 8 * i) := by
  rw [blockLane, State.memRead_drop, State.memRead_take _ _ _ (by omega), State.loadLane]

/-- R135: the lanes of the block in `BLK`. -/
theorem blockLane_blk (s : State) {n i : Nat} (hn : n ≤ 144) (hi : 8 * i + 8 ≤ n) :
    blockLane (s.blk.toList.take n) i = le64 ((List.range 8).map fun k => s.blkByte (8 * i + k)) := by
  have hlength : s.blk.toList.length = 144 := Vector.length_toList
  rw [blockLane]
  congr 1
  refine List.ext_getElem (by simp; omega) fun k hk hk' => ?_
  have hk8 : k < 8 := by simpa using hk'
  rw [List.getElem_take, List.getElem_drop, List.getElem_take, List.getElem_map, List.getElem_range, State.blkByte,
    List.getD_eq_getElem _ _ (by omega)]

/-- XORing sees the first `n` words only. -/
theorem xorLanes_congr (A : Lanes) {n : Nat} {v w : Nat → Word} (h : ∀ i < n, v i = w i) :
    xorLanes A n v = xorLanes A n w := by
  refine lanes_ext fun i hi => ?_
  rw [xorLanes, xorLanes, lane_tabulate, lane_tabulate, if_pos hi, if_pos hi]
  split_ifs with hin
  · rw [h i hin]
  · rfl

/-! ### Absorbing a block -/

/-- R133: absorbing a full block is `AbsorbBlock` of the next `RSIZ` bytes of the input. -/
theorem State.absorbFull_lanes {s : State} (hrem : s.rsiz ≤ s.rem) (hwhole : 8 * s.rsizw ≤ s.rsiz)
    (hnrl : s.nrl = 24) :
    s.absorbFull.lanes = absorbBlock s.lanes ((s.memRead s.src s.ptr s.rem).take s.rsiz) s.rsizw := by
  have hlanes : s.xorInput.lanes =
      xorLanes s.lanes s.rsizw (blockLane ((s.memRead s.src s.ptr s.rem).take s.rsiz)) := by
    refine xorLanes_congr s.lanes fun i hi => ?_
    rw [State.memRead_take _ _ _ hrem, blockLane_memRead _ _ _ (by omega)]
  rw [State.absorbFull, State.nextBlock_lanes, State.permutation_lanes, State.xorInput_nrl, hnrl, hlanes]
  rfl

/-- R135: absorbing `BLK` is `AbsorbBlock` of its first `RSIZ` bytes. -/
theorem State.absorbFinal_lanes {s : State} (hrsiz : s.rsiz ≤ 144) (hwhole : 8 * s.rsizw ≤ s.rsiz)
    (hnrl : s.nrl = 24) :
    s.absorbFinal.lanes = absorbBlock s.lanes (s.blk.toList.take s.rsiz) s.rsizw := by
  have hlanes : s.xorBlk.lanes = xorLanes s.lanes s.rsizw (blockLane (s.blk.toList.take s.rsiz)) :=
    xorLanes_congr s.lanes fun i hi => (blockLane_blk s hrsiz (by omega)).symm
  rw [State.absorbFinal, State.permutation_lanes, State.xorBlk_nrl, hnrl, hlanes]
  rfl

/-! ### The registers of a pass -/

theorem State.run_succ_last (n : Nat) (s : State) : State.run (n + 1) s = (State.run n s).advance :=
  State.run_add n 1 s

/-- What the steps of one pass keep: the latched operands, the rate, the source, the pass number, and the operands in
the registers and in `MSG`. -/
structure SamePass (s t : State) : Prop where
  busy : t.busy = s.busy
  mdl : t.mdl = s.mdl
  rsiz : t.rsiz = s.rsiz
  rsizw : t.rsizw = s.rsizw
  src : t.src = s.src
  kreq : t.kreq = s.kreq
  pass : t.pass = s.pass
  nrl : t.nrl = s.nrl
  kept : OperandsKept s t

theorem SamePass.refl (s : State) : SamePass s s := ⟨rfl, rfl, rfl, rfl, rfl, rfl, rfl, rfl, .refl s⟩

theorem SamePass.trans {s t u : State} (h : SamePass s t) (k : SamePass t u) : SamePass s u :=
  ⟨k.busy.trans h.busy, k.mdl.trans h.mdl, k.rsiz.trans h.rsiz, k.rsizw.trans h.rsizw, k.src.trans h.src,
    k.kreq.trans h.kreq, k.pass.trans h.pass, k.nrl.trans h.nrl, h.kept.trans k.kept⟩

theorem State.absorbFull_samePass (s : State) : SamePass s s.absorbFull := by
  constructor
  case kept => constructor <;> simp [State.absorbFull]
  all_goals simp [State.absorbFull]

theorem State.absorbFinal_samePass (s : State) : SamePass s s.absorbFinal := by
  constructor
  case kept => constructor <;> simp [State.absorbFinal]
  all_goals simp [State.absorbFinal]

theorem State.padStep_samePass (s : State) : SamePass s s.padStep := by
  constructor
  case kept => constructor <;> rfl
  all_goals rfl

theorem State.squeezeStep_samePass (s : State) : SamePass s s.squeezeStep := by
  constructor
  case kept => constructor <;> rfl
  all_goals rfl

theorem State.withPhase_samePass (s : State) (p : Phase) : SamePass s { s with phase := p } := by
  constructor
  case kept => constructor <;> rfl
  all_goals rfl

theorem SamePass.memRead {s t : State} (h : SamePass s t) (hdig : t.dig = s.dig) (q : Source) (a n : Nat) :
    t.memRead q a n = s.memRead q a n :=
  State.memRead_congr h.kept.msgByte hdig q a n

/-- The block is about to absorb the first block of a pass (R131). -/
structure PassReady (s : State) : Prop where
  busy : s.busy = true
  phase : s.phase = .absorb
  lanes : s.lanes = zeroLanes
  legal : legalMdlen s.mdl = true
  rsiz : s.rsiz = rate s.mdl
  rsizw : s.rsizw = rate s.mdl / 8
  nrl : s.nrl = 24

/-- The input of the pass: the `REM` bytes at `PTR` of the space `SRC`. -/
def State.passInput (s : State) : List Byte := s.memRead s.src s.ptr s.rem

/-- The pass begun in `s` has absorbed `q` full blocks when it is in `t` (R137). -/
structure Absorbed (s : State) (q : Nat) (t : State) : Prop where
  phase : t.phase = .absorb
  lanes : t.lanes = absorbBlocks s.passInput s.rsiz q
  ptr : t.ptr = s.ptr + q * s.rsiz
  rem : t.rem = s.rem - q * s.rsiz
  dig : t.dig = s.dig
  same : SamePass s t

/-- The pass begun in `s` has written its digest when it is in `t` (R137). -/
structure PassDone (s t : State) : Prop where
  phase : t.phase = .next
  lanes : t.lanes = (sponge s.passInput s.mdl).2
  dig : t.dig.toList = (sponge s.passInput s.mdl).1 ++ List.replicate (64 - s.mdl) 0x00
  same : SamePass s t

/-! ### The full blocks -/

theorem Absorbed.zero {s : State} (h : PassReady s) : Absorbed s 0 s :=
  ⟨h.phase, h.lanes, by simp, by simp, rfl, .refl s⟩

/-- What is left of the input is what the pass still has to read. -/
theorem Absorbed.input {s t : State} {q : Nat} (h : Absorbed s q t) :
    t.passInput = s.passInput.drop (q * s.rsiz) := by
  rw [State.passInput, h.same.memRead h.dig, h.same.src, h.ptr, h.rem, State.passInput, State.memRead_drop]

theorem Absorbed.succ {s t : State} {q : Nat} (hs : PassReady s) (h : Absorbed s q t)
    (hblock : (q + 1) * s.rsiz ≤ s.rem) : Absorbed s (q + 1) t.advance := by
  obtain ⟨hbusy, -, -, hlegal, hrsiz, hrsizw, hnrl⟩ := hs
  obtain ⟨hphase, hlanes, hptr, hrem, hdig, hsame⟩ := id h
  rw [Nat.succ_mul] at hblock
  have hfull : t.rsiz ≤ t.rem := by rw [hsame.rsiz, hrem]; omega
  have hwhole : 8 * t.rsizw ≤ t.rsiz := by rw [hsame.rsiz, hsame.rsizw, hrsiz, hrsizw]; omega
  have hadvance : t.advance = t.absorbFull := State.advance_absorb_full (hsame.busy.trans hbusy) hphase hfull
  rw [hadvance]
  refine ⟨?phase, ?lanes, ?ptr, ?rem, ?dig, hsame.trans t.absorbFull_samePass⟩
  case phase => simp [State.absorbFull, hphase]
  case lanes =>
    have hinput := h.input
    rw [State.passInput] at hinput
    rw [State.absorbFull_lanes hfull hwhole (hsame.nrl.trans hnrl), hinput, hlanes, hsame.rsiz, hsame.rsizw, hrsizw,
      ← hrsiz, absorbBlocks]
  case ptr =>
    simp only [State.absorbFull, State.nextBlock_ptr, State.permutation_ptr, State.permutation_rsiz, State.xorInput_ptr,
      State.xorInput_rsiz, hptr, hsame.rsiz]
    ring
  case rem =>
    simp only [State.absorbFull, State.nextBlock_rem, State.permutation_rem, State.permutation_rsiz, State.xorInput_rem,
      State.xorInput_rsiz, hrem, hsame.rsiz, Nat.succ_mul]
    omega
  case dig => simp [State.absorbFull, hdig]

theorem absorbed_run {s : State} (hs : PassReady s) {q : Nat} (hq : q * s.rsiz ≤ s.rem) :
    Absorbed s q (State.run q s) := by
  induction q with
  | zero => exact .zero hs
  | succ q ih =>
    rw [State.run_succ_last]
    exact (ih (by rw [Nat.succ_mul] at hq; omega)).succ hs hq

/-! ### The padded block and the digest -/

/-- The state in phase `FINAL`, from `ABSORB` with less than a block left (R134, R138). -/
def State.padded (t : State) : State := { ({ t with phase := .pad } : State).padStep with phase := .final }

/-- The state in phase `NEXT`, from `ABSORB` with less than a block left (R138). -/
def State.tailSteps (t : State) : State :=
  { ({ t.padded.absorbFinal with phase := .squeeze } : State).squeezeStep with phase := .next }

theorem State.run_tail {t : State} (hbusy : t.busy = true) (hphase : t.phase = .absorb) (hrem : t.rem < t.rsiz) :
    State.run 4 t = t.tailSteps := by
  have hfinal : t.padded.absorbFinal.busy = true := t.padded.absorbFinal_samePass.busy.trans hbusy
  calc State.run 4 t
    _ = State.run 3 { t with phase := .pad } := by rw [State.run_succ, State.advance_absorb_tail hbusy hphase hrem]
    _ = State.run 2 t.padded := by
      rw [State.run_succ, State.advance_pad (s := { t with phase := .pad }) hbusy rfl]
      rfl
    _ = State.run 1 { t.padded.absorbFinal with phase := .squeeze } := by
      rw [State.run_succ, State.advance_final (s := t.padded) hbusy rfl]
    _ = t.tailSteps := State.advance_squeeze (s := { t.padded.absorbFinal with phase := .squeeze }) hfinal rfl

theorem State.padded_samePass (t : State) : SamePass t t.padded :=
  (t.withPhase_samePass .pad).trans <|
    (State.padStep_samePass { t with phase := .pad }).trans (State.withPhase_samePass _ .final)

theorem State.tailSteps_samePass (t : State) : SamePass t t.tailSteps :=
  t.padded_samePass.trans <| t.padded.absorbFinal_samePass.trans <|
    (t.padded.absorbFinal.withPhase_samePass .squeeze).trans <|
      (State.squeezeStep_samePass { t.padded.absorbFinal with phase := .squeeze }).trans <|
        State.withPhase_samePass _ .next

/-- The tail of a pass absorbs the padded rest of the input (R134, R135). -/
theorem State.tailSteps_lanes {t : State} (hrem : t.rem < t.rsiz) (hrsiz : t.rsiz ≤ 144)
    (hwhole : 8 * t.rsizw ≤ t.rsiz) (hnrl : t.nrl = 24) :
    t.tailSteps.lanes = absorbBlock t.lanes (padBlock t.passInput t.rsiz) t.rsizw := by
  have hblock : t.padded.blk.toList.take t.rsiz = padBlock t.passInput t.rsiz :=
    State.padStep_block (s := { t with phase := .pad }) hrem hrsiz
  calc t.tailSteps.lanes
    _ = t.padded.absorbFinal.lanes := rfl
    _ = absorbBlock t.lanes (t.padded.blk.toList.take t.rsiz) t.rsizw :=
      State.absorbFinal_lanes (s := t.padded) hrsiz hwhole hnrl
    _ = absorbBlock t.lanes (padBlock t.passInput t.rsiz) t.rsizw := by rw [hblock]

/-- It writes the digest of the state it reaches (R136). -/
theorem State.tailSteps_digest {t : State} (hmdl : t.mdl ≤ 64) :
    t.tailSteps.dig.toList = squeeze t.tailSteps.lanes t.mdl ++ List.replicate (64 - t.mdl) 0x00 := by
  have hsame : ({ t.padded.absorbFinal with phase := .squeeze } : State).mdl = t.mdl :=
    t.padded.absorbFinal_samePass.mdl
  have hdigest := State.squeezeStep_digest (s := { t.padded.absorbFinal with phase := .squeeze }) (by rwa [hsame])
  rwa [hsame] at hdigest

/-! ### The pass -/

/-- R137: the full blocks of the input, then its padded rest. -/
theorem passDone_run {s : State} (hs : PassReady s) : PassDone s (State.run (s.rem / s.rsiz + 4) s) := by
  obtain ⟨hbusy, -, -, hlegal, hrsiz, hrsizw, hnrl⟩ := id hs
  obtain ⟨hlanes8, hlt, -, h144⟩ := rate_of_legal hlegal
  have hpos : 0 < s.rsiz := by omega
  have hdiv : s.rem / s.rsiz * s.rsiz ≤ s.rem := Nat.div_mul_le_self _ _
  have habsorbed := absorbed_run hs hdiv
  rw [State.run_add]
  set t := State.run (s.rem / s.rsiz) s
  obtain ⟨hphase, hlanes, -, hrem, -, hsame⟩ := id habsorbed
  have hmod : t.rem < t.rsiz := by
    rw [hsame.rsiz, hrem, Nat.mul_comm, ← Nat.mod_eq_sub_mul_div]
    exact Nat.mod_lt _ hpos
  rw [State.run_tail (hsame.busy.trans hbusy) hphase hmod]
  have hfinal : t.tailSteps.lanes = spongeLanes s.passInput s.mdl := by
    rw [State.tailSteps_lanes hmod (by rw [hsame.rsiz]; omega) (by rw [hsame.rsiz, hsame.rsizw]; omega)
      (hsame.nrl.trans hnrl), hlanes, habsorbed.input, hsame.rsiz, hsame.rsizw, hrsizw, hrsiz, spongeLanes,
      State.passInput, State.memRead_length]
  refine ⟨rfl, hfinal, ?dig, hsame.trans t.tailSteps_samePass⟩
  rw [State.tailSteps_digest (by rw [hsame.mdl]; exact legalMdlen_le hlegal), hfinal, hsame.mdl]
  rfl

/-- Settles O20: a simulation along the steps of the pass, `passDone_run`. -/
theorem enginePassComputesTheSponge : Obligations.EnginePassComputesTheSponge := by
  intro s hbusy hphase hlanes hlegal hrsiz hrsizw hnrl
  obtain ⟨hnext, hstate, hdig, hsame⟩ := passDone_run ⟨hbusy, hphase, hlanes, hlegal, hrsiz, hrsizw, hnrl⟩
  exact ⟨hsame.busy.trans hbusy, hnext, hstate, hdig, hsame.pass, hsame.kreq, hsame.mdl, hsame.kept⟩

end Sys2Proof.Machine
end

section
/-! SUPPORT. The hash commands (rules R160 to R169): the passes one after another, and every command from its start to
its completion. -/

namespace Sys2Proof.Machine

/-! ### From pass to pass -/

/-- R162: the input of a later pass is the digest just written, without the zeros above it. -/
theorem State.memRead_dig {s : State} {D : List Byte} {m : Nat} (hlength : D.length = m)
    (hdig : s.dig.toList = D ++ List.replicate (64 - m) 0x00) : s.memRead .dig 0 m = D := by
  refine byteList_ext (by simp [hlength]) fun b hb => ?_
  rw [State.memRead_length] at hb
  calc (s.memRead .dig 0 m).getD b 0
    _ = s.digByte b := by rw [State.memRead_getD _ _ _ hb, Nat.zero_add, State.sourceByte]
    _ = D.getD b 0 := by rw [State.digByte, hdig, List.getD_append _ _ _ _ (by rwa [hlength])]

/-- The state in which a further pass begins (R162). -/
def State.anotherPass (t : State) : State := { t.initPass .dig 0 t.mdl with pass := t.pass + 1, phase := .absorb }

theorem State.advance_next_pass {t : State} (hbusy : t.busy = true) (hphase : t.phase = .next)
    (hpass : t.pass < t.kreq) : t.advance = t.anotherPass := by
  rw [State.advance_next hbusy hphase, State.nextStep, if_pos hpass]
  rfl

theorem State.advance_next_last {t : State} (hbusy : t.busy = true) (hphase : t.phase = .next)
    (hpass : t.pass = t.kreq) : t.advance = { t.complete with dlen := BitVec.ofNat 8 t.mdl } := by
  rw [State.advance_next hbusy hphase, State.nextStep, if_neg (Nat.not_lt.mpr hpass.ge)]

theorem State.anotherPass_ready {t : State} (hbusy : t.busy = true) (hlegal : legalMdlen t.mdl = true)
    (hnrl : t.nrl = 24) : PassReady t.anotherPass :=
  ⟨hbusy, rfl, rfl, hlegal, rfl, rfl, hnrl⟩

/-- What the last step of a hash command of digest length `m` leaves of the result `r` of its last pass (R162, R190). -/
structure ResultShown (m : Nat) (r : List Byte × Lanes) (t : State) : Prop where
  lanes : t.lanes = r.2
  dig : t.dig.toList = r.1 ++ List.replicate (64 - m) 0x00
  dlen : t.dlen = BitVec.ofNat 8 m
  busy : t.busy = false
  done : t.done = true
  phase : t.phase = .idle

/-- R161, R162: the pass about to begin, then `n` more, each over the digest of the one before. -/
theorem resultShown_run {s : State} (hs : PassReady s) {n : Nat} (hn : s.kreq = s.pass + n) :
    ResultShown s.mdl (rehash s.mdl n (sponge s.passInput s.mdl)) (State.run (s.rem / s.rsiz + 5 + 5 * n) s) := by
  induction n generalizing s with
  | zero =>
    obtain ⟨hphase, hlanes, hdig, hsame⟩ := passDone_run hs
    have hlast := State.advance_next_last (hsame.busy.trans hs.busy) hphase (by rw [hsame.pass, hsame.kreq, hn]; rfl)
    rw [Nat.mul_zero, Nat.add_zero, State.run_succ_last, hlast]
    exact ⟨hlanes, hdig, congrArg (BitVec.ofNat 8) hsame.mdl, rfl, rfl, rfl⟩
  | succ n ih =>
    have hsteps : s.rem / s.rsiz + 5 + 5 * (n + 1) = s.rem / s.rsiz + 4 + (1 + (5 + 5 * n)) := by ring
    rw [hsteps, State.run_add]
    obtain ⟨hphase, hlanes, hdig, hsame⟩ := passDone_run hs
    set t := State.run (s.rem / s.rsiz + 4) s
    have hbusy := hsame.busy.trans hs.busy
    have hlegal : legalMdlen t.mdl = true := by rw [hsame.mdl]; exact hs.legal
    have hready := State.anotherPass_ready hbusy hlegal (hsame.nrl.trans hs.nrl)
    have hshort : t.anotherPass.rem / t.anotherPass.rsiz = 0 := Nat.div_eq_of_lt (lt_rate_of_legal hlegal)
    have hinput : t.anotherPass.passInput = (sponge s.passInput s.mdl).1 := by
      have hm := legalMdlen_le hs.legal
      rw [← State.memRead_dig (sponge_digest_length _ (by omega)) hdig, ← hsame.mdl]
      rfl
    have hpasses : t.anotherPass.kreq = t.anotherPass.pass + n := by
      change t.kreq = t.pass + 1 + n
      rw [hsame.kreq, hsame.pass, hn]
      ring
    have hrest := ih hready hpasses
    rw [hshort, Nat.zero_add, hinput, show t.anotherPass.mdl = s.mdl from hsame.mdl] at hrest
    rw [Nat.add_comm 1, State.run_succ, State.advance_next_pass hbusy hphase (by rw [hsame.pass, hsame.kreq]; omega),
      rehash_succ]
    exact hrest

/-! ### Accepted commands -/

theorem permuteCheck_none {nr : Nat} (h : permuteCheck nr = none) : nr ≤ 24 :=
  Nat.not_lt.mp fun hnr => by simp [permuteCheck_above hnr] at h

/-- R72: an accepted command is a permutation of at most 24 rounds or a hash command. -/
theorem accepted_cases {i : Instr} {s : State} (hr : refusalOf i s = none) :
    (∃ nr ≤ 24, i = .permute nr) ∨ ∃ m k, hashOperands i = some (m, k) := by
  cases i with
  | permute nr => exact .inl ⟨nr, permuteCheck_none hr, rfl⟩
  | hash | hashi | sum224 | sum256 | sum384 | sum512 => exact .inr ⟨_, _, rfl⟩

/-! ### From the start of a command to its completion -/

theorem State.initStep_startHash_ready (s : State) (op : Byte) {m : Nat} (hm : legalMdlen m = true) (k : Nat) :
    PassReady (s.startHash op m k).initStep :=
  ⟨rfl, rfl, rfl, hm, rfl, rfl, rfl⟩

theorem State.finish_startHash (s : State) (op : Byte) (m k : Nat) :
    (s.startHash op m k).finish =
      State.run (s.inLen.toNat / rate m + 5 + 5 * (k - 1)) (s.startHash op m k).initStep := by
  have hsteps : (s.startHash op m k).stepsLeft = s.inLen.toNat / rate m + 5 + 5 * (k - 1) + 1 := by
    simp only [State.stepsLeft, State.startHash_busy, State.startHash_phase, State.laterPassSteps, if_true,
      State.startHash_inLen, State.startHash_mdl, State.startHash_kreq, State.startHash_pass]
    omega
  rw [State.finish, hsteps, State.run_succ, State.advance_init rfl rfl]

theorem startCommand_kept (i : Instr) (s : State) : OperandsKept s (startCommand i s) := by
  cases hi : refusalOf i s with
  | some e =>
    rw [startCommand_refused hi]
    constructor <;> rfl
  | none =>
    obtain ⟨nr, hnr, rfl⟩ | ⟨m, k, hk⟩ := accepted_cases hi
    · rw [startCommand_permute s hnr]
      constructor <;> rfl
    · rw [startCommand_hash hk hi]
      constructor <;> rfl

/-- An outcome has one next state. -/
theorem next_unique {x : Host.Outcome State Fault Refusal} {t u : State} (ht : x = .next t) (hu : x = .next u) :
    t = u :=
  Host.Outcome.next.inj (ht.symm.trans hu)

/-- R31, R60: no command writes its operands or the message memory. -/
theorem exec_kept {i : Instr} {s t : State} (ht : exec i s = .next t) : OperandsKept s t := by
  obtain rfl := next_unique ht (exec_eq_start i s)
  exact (startCommand_kept i s).trans (State.finish_kept _)

/-- A digest length fits the field `DLEN`. -/
theorem toNat_ofNat_of_legal {m : Nat} (hm : legalMdlen m = true) : (BitVec.ofNat 8 m).toNat = m := by
  have := legalMdlen_le hm
  rw [BitVec.toNat_ofNat, Nat.mod_eq_of_lt (by omega)]

theorem hashDone_finish_startHash (s : State) (op : Byte) {m k : Nat} (hm : legalMdlen m = true) (hk : k ≠ 0) :
    HashDone s m k (s.startHash op m k).finish := by
  have hpasses : (s.startHash op m k).initStep.kreq = (s.startHash op m k).initStep.pass + (k - 1) := by
    change k = 1 + (k - 1)
    omega
  have hshown := resultShown_run (s.initStep_startHash_ready op hm k) hpasses
  obtain ⟨hlanes, hdig, hdlen, hbusy, hdone, hphase⟩ := s.finish_startHash op m k ▸ hshown
  obtain ⟨herr, hecode⟩ := State.run_error (s.startHash op m k).stepsLeft (s.startHash op m k)
  have hstart : OperandsKept s (s.startHash op m k) := by constructor <;> rfl
  exact ⟨hlanes, hdig, hdlen ▸ toNat_ofNat_of_legal hm, ⟨hbusy, hdone, hphase, herr, hecode⟩,
    hstart.trans (State.finish_kept _)⟩

/-- R160: every accepted hash command completes with the iterated digest of its window. -/
theorem exec_hash {i : Instr} {s : State} {m k : Nat} (hi : hashOperands i = some (m, k)) (hr : refusalOf i s = none) :
    ∃ t, exec i s = .next t ∧ HashDone s m k t := by
  obtain ⟨hm, hk, -⟩ := hashCheck_none.mp ((refusalOf_hash hi).symm.trans hr)
  refine ⟨_, exec_eq_start i s, ?_⟩
  rw [startCommand_hash hi hr]
  exact hashDone_finish_startHash s _ hm hk

end Sys2Proof.Machine
end

section
/-! SUPPORT. The statements on whole commands: `PERMUTE` (R112, R113), the hash commands (R160 to R169), their errors
(R183, R186) and what no command changes (R31, R60). -/

namespace Sys2Proof.Machine

/-! ### `PERMUTE` -/

/-- The state in which an accepted `PERMUTE` ends (R113). -/
def State.permuted (s : State) (nr : Nat) : State := (State.rounds nr (s.startPermute nr)).complete

theorem State.permuted_lanes (s : State) (nr : Nat) : (s.permuted nr).lanes = keccakP s.lanes nr := by
  rw [State.permuted, State.complete_lanes, (State.rounds_spec nr (s.startPermute nr)).1]
  exact keccakP_eq_foldl_range' s.lanes nr

theorem State.permuted_completed (s : State) (nr : Nat) : Completed s (s.permuted nr) := by
  constructor <;> simp [State.permuted]

/-- Settles O21: the rounds of the engine are those of `KeccakP`; completion and operands by the run's lemmas. -/
theorem permuteResult : Obligations.PermuteResult := fun nr s hnr =>
  ⟨_, exec_permute hnr s, s.permuted_lanes nr, s.permuted_completed nr, exec_kept (exec_permute hnr s),
    by simp, by simp⟩

/-- Settles O23: up to the bound the rounds write their own registers only; above it only the error is recorded. -/
theorem permuteFrame : Obligations.PermuteFrame := by
  intro nr s t hbusy ht
  have hkept := exec_kept ht
  refine ⟨hkept, hkept.msgByte, ?_⟩
  rcases Nat.lt_or_ge 24 nr with hnr | hnr
  · have hr : refusalOf (.permute nr) s = some .invalidRounds := permuteCheck_above hnr
    obtain rfl := next_unique ht (exec_refused hbusy hr)
    simp [hbusy]
  · obtain rfl := next_unique ht (exec_permute hnr s)
    simp [hnr]

/-! ### The hash commands -/

theorem refusalOf_none_of_fits {i : Instr} {s : State} {m k : Nat} (hi : hashOperands i = some (m, k))
    (hm : legalMdlen m = true) (hk : k ≠ 0) (hfits : s.windowFits = true) : refusalOf i s = none :=
  (refusalOf_hash hi).trans (hashCheck_none.mpr ⟨hm, hk, hfits⟩)

/-- R160, with the checks written out. -/
theorem exec_hash_of_fits {i : Instr} {s : State} {m k : Nat} (hi : hashOperands i = some (m, k))
    (hm : legalMdlen m = true) (hk : k ≠ 0) (hfits : s.windowFits = true) :
    ∃ t, exec i s = .next t ∧ HashDone s m k t :=
  exec_hash hi (refusalOf_none_of_fits hi hm hk hfits)

/-- Settles O24: one pass, `exec_hash_of_fits`. -/
theorem hashResult : Obligations.HashResult := by
  intro m s hm hfits
  obtain ⟨t, ht, hdone⟩ := exec_hash_of_fits (i := .hash m) rfl hm one_ne_zero hfits
  exact ⟨t, ht, hdone, hdone.lanes⟩

/-- Settles O25: `k` passes, by the induction of `resultShown_run` behind `exec_hash_of_fits`. -/
theorem hashiResult : Obligations.HashiResult := fun _ _ _ hm hk hfits =>
  exec_hash_of_fits rfl hm (Nat.ne_of_gt hk) hfits

/-- Settles O26: each SUM command is one pass with its own digest length. -/
theorem sumResults : Obligations.SumResults := fun _ hfits =>
  ⟨exec_hash_of_fits rfl rfl one_ne_zero hfits, exec_hash_of_fits rfl rfl one_ne_zero hfits,
    exec_hash_of_fits rfl rfl one_ne_zero hfits, exec_hash_of_fits rfl rfl one_ne_zero hfits⟩

/-- Settles O31: the two kinds of accepted commands by `exec_permute` and `exec_hash`. -/
theorem acceptedCommandsComplete : Obligations.AcceptedCommandsComplete := by
  intro i s hr
  obtain ⟨nr, hnr, rfl⟩ | ⟨m, k, hi⟩ := accepted_cases hr
  · exact ⟨_, exec_permute hnr s, s.permuted_completed nr⟩
  · obtain ⟨t, ht, hdone⟩ := exec_hash hi hr
    exact ⟨t, ht, hdone.completed⟩

/-- Settles O33: neither the start nor the engine writes an operand or the memory, `exec_kept`. -/
theorem commandsKeepOperandsAndMemory : Obligations.CommandsKeepOperandsAndMemory := fun _ _ _ _ ht =>
  ⟨exec_kept ht, (exec_kept ht).msgByte⟩

/-! ### Errors -/

theorem hashCheck_bufferTooSmall {s : State} {m k : Nat} (hm : legalMdlen m = true) (hk : k ≠ 0)
    (hover : s.msgSize < s.inAddr.toNat + s.inLen.toNat) : s.hashCheck m k = some .bufferTooSmall := by
  have hfits : s.windowFits = false := decide_eq_false (Nat.not_le.mpr hover)
  simp [State.hashCheck, hm, hk, hfits]

/-- Settles O29: past the bound the last check fails; up to it the command completes with the error flags as they
were. -/
theorem bufferTooSmallRaised : Obligations.BufferTooSmallRaised := by
  intro i m k s hbusy herr hi hm hk
  refine ⟨fun hover => ⟨exec_refused hbusy ?refused, rfl⟩, fun hfits => ?completes⟩
  case refused => rw [refusalOf_hash hi, hashCheck_bufferTooSmall hm hk hover]
  case completes =>
    obtain ⟨t, ht, hdone⟩ := exec_hash_of_fits hi hm hk (decide_eq_true hfits)
    exact ⟨t, ht, hdone.completed.done, hdone.completed.err.trans herr, hdone.dlen⟩

/-- R81: only `PERMUTE` uses the field `NR`. -/
theorem exists_decode_error_of_nrField {w : Word} (hop : 2 ≤ opField w) (hnr : nrField w ≠ 0) :
    ∃ e, decode w = .error e := by
  rw [exists_decode_eq_error_iff]
  simp only [hnr, ne_eq, not_false_eq_true, true_or, or_true, and_true]
  omega

/-- Settles O30: the checks of R186 in their order; a stray `NR` is found by the decoder, before any of them. -/
theorem errorPriorityOfHashCommands : Obligations.ErrorPriorityOfHashCommands := by
  refine ⟨fun m k s e hbusy he => exec_refused hbusy ?checks, fun w wait s hop hnr => ?stray⟩
  case checks =>
    rw [refusalOf_hash rfl]
    cases hm : legalMdlen m with
    | false =>
      obtain rfl : e = .invalidDigestLength := by simpa [hm] using he
      exact hashCheck_eq_invalidDigestLength_iff.mpr hm
    | true =>
      by_cases hk : k = 0
      · subst hk
        obtain rfl : e = .invalidIterations := by simpa [hm] using he
        exact hashCheck_zero_iterations s hm
      · obtain ⟨hover, rfl⟩ : s.msgSize < s.inAddr.toNat + s.inLen.toNat ∧ e = .bufferTooSmall := by
          simpa [hm, hk] using he
        exact hashCheck_bufferTooSmall hm hk hover
  case stray =>
    obtain ⟨e, he⟩ := exists_decode_error_of_nrField hop hnr
    exact issue_illegal he wait s

/-! ### The digest and the state -/

/-- R136: the digest of every pass is the front of the byte image of its final state. -/
theorem hashIter_fst (M : List Byte) (m k : Nat) : (hashIter M m k).1 = squeeze (hashIter M m k).2 m := by
  have hrehash (n : Nat) (r : List Byte × Lanes) (hr : r.1 = squeeze r.2 m) :
      (rehash m n r).1 = squeeze (rehash m n r).2 m := by
    induction n generalizing r with
    | zero => exact hr
    | succ n ih => exact ih _ rfl
  exact hrehash (k - 1) _ rfl

theorem HashDone.digByte {s t : State} {m k : Nat} (h : HashDone s m k t) (hm : m ≤ 64) (b : Nat) :
    t.digByte b = if b < m then stateByte t.lanes b else 0x00 := by
  rw [State.digByte, h.dig, hashIter_fst, ← h.lanes, getD_squeeze_append _ hm]

/-- R23: byte `k` of lane `j` in the byte image. -/
theorem stateByte_lane (A : Lanes) (j : Nat) {k : Nat} (hk : k < 8) :
    stateByte A (8 * j + k) = byteOf (lane A j) k := by
  have hdiv : (8 * j + k) / 8 = j := by omega
  have hmod : (8 * j + k) % 8 = k := by omega
  rw [stateByte, hdiv, hmod]

/-- R29: byte `k` of `DIGESTj` after a hash command. -/
theorem HashDone.byteOf_digest {s t : State} {m k : Nat} (h : HashDone s m k t) (hm : m ≤ 64) (j : Fin 8) {b : Nat}
    (hb : b < 8) :
    byteOf (t.readReg (.digest j)) b = if 8 * j.val + b < m then byteOf (lane t.lanes j.val) b else 0x00 := by
  rw [State.readReg, State.byteOf_loadLane _ _ _ hb, State.sourceByte, h.digByte hm, stateByte_lane _ _ hb]

theorem byteOf_zero (b : Nat) : byteOf 0 b = 0 := by simp [byteOf]

/-- The low half of a word. -/
theorem byteOf_mod (v : Word) {b : Nat} (hb : b < 8) :
    byteOf (BitVec.ofNat 64 (v.toNat % 2 ^ 32)) b = if b < 4 then byteOf v b else 0x00 := by
  have hhalf := Nat.mod_lt v.toNat (Nat.two_pow_pos 32)
  apply BitVec.eq_of_toNat_eq
  interval_cases b <;> simp [byteOf, Nat.shiftRight_eq_div_pow] <;> omega

/-- Settles O34: byte by byte, a register of the digest lies below the digest length, above it, or across it. -/
theorem digestIsAPrefixOfTheState : Obligations.DigestIsAPrefixOfTheState := by
  intro i m k s t hi hr ht
  obtain ⟨t', ht', hdone⟩ := exec_hash hi hr
  obtain rfl := next_unique ht ht'
  have hm := legalMdlen_le (hashCheck_none.mp ((refusalOf_hash hi).symm.trans hr)).1
  refine ⟨fun b _ => hdone.digByte hm b, fun j hj => ?below, fun j hj => ?above, ?across⟩
  case below =>
    refine word_eq_of_byteOf_eq fun b hb => ?_
    rw [hdone.byteOf_digest hm j hb, if_pos (by omega)]
  case above =>
    refine word_eq_of_byteOf_eq fun b hb => ?_
    rw [hdone.byteOf_digest hm j hb, if_neg (by omega), byteOf_zero]
  case across =>
    rintro rfl
    refine word_eq_of_byteOf_eq fun b hb => ?_
    have hthree : (3 : Fin 8).val = 3 := rfl
    rw [hdone.byteOf_digest hm 3 hb, byteOf_mod _ hb, hthree]
    exact if_congr (by omega) rfl rfl

/-! ### Commands that leave the same -/

/-- Two completed hash commands of one digest length show the same if their passes gave the same. -/
theorem HashDone.same_result {s s' t t' : State} {m k k' : Nat} (h : HashDone s m k t) (h' : HashDone s' m k' t')
    (hresult : hashIter s.message m k = hashIter s'.message m k') :
    t.lanes = t'.lanes ∧ t.dig = t'.dig ∧ t.dlen = t'.dlen := by
  refine ⟨?_, Vector.toList_inj.mp ?_, BitVec.eq_of_toNat_eq (h.dlen.trans h'.dlen.symm)⟩
  · rw [h.lanes, h'.lanes, hresult]
  · rw [h.dig, h'.dig, hresult]

theorem HashDone.same_status {s s' t t' : State} {m k k' : Nat} (h : HashDone s m k t) (h' : HashDone s' m k' t')
    (herr : s.err = s'.err) (hecode : s.ecode = s'.ecode) : t.statusWord = t'.statusWord := by
  rw [State.statusWord, State.statusWord, h.completed.busy, h'.completed.busy, h.completed.done, h'.completed.done,
    h.completed.err, h'.completed.err, h.completed.ecode, h'.completed.ecode, herr, hecode, h.dlen, h'.dlen]

/-- R169: two hash commands with the same operands leave the same, run or refused. -/
theorem exec_same_of_hashOperands {i j : Instr} {s : State} {m k : Nat} (hbusy : s.busy = false)
    (hi : hashOperands i = some (m, k)) (hj : hashOperands j = some (m, k)) :
    ∃ t u, exec i s = .next t ∧ exec j s = .next u ∧ t.lanes = u.lanes ∧ t.dig = u.dig ∧
      t.statusWord = u.statusWord := by
  have hij : refusalOf i s = refusalOf j s := by rw [refusalOf_hash hi, refusalOf_hash hj]
  cases hr : refusalOf j s with
  | some e => exact ⟨_, _, exec_refused hbusy (hij.trans hr), exec_refused hbusy hr, rfl, rfl, rfl⟩
  | none =>
    obtain ⟨t, ht, htdone⟩ := exec_hash hi (hij.trans hr)
    obtain ⟨u, hu, hudone⟩ := exec_hash hj hr
    obtain ⟨hlanes, hdig, -⟩ := htdone.same_result hudone rfl
    exact ⟨t, u, ht, hu, hlanes, hdig, htdone.same_status hudone rfl rfl⟩

/-- Settles O35: each pair has the same operands, `exec_same_of_hashOperands`. -/
theorem equivalentHashCommands : Obligations.EquivalentHashCommands := by
  intro s i m hbusy him
  have hi : hashOperands i = some (m, 1) := by
    simp only [List.mem_cons, Prod.mk.injEq, List.not_mem_nil, or_false] at him
    rcases him with ⟨rfl, rfl⟩ | ⟨rfl, rfl⟩ | ⟨rfl, rfl⟩ | ⟨rfl, rfl⟩ <;> rfl
  obtain ⟨t, u, ht, hu, htlanes, htdig, htstatus⟩ := exec_same_of_hashOperands (j := .hash m) hbusy hi rfl
  obtain ⟨v, u', hv, hu', hvlanes, hvdig, hvstatus⟩ :=
    exec_same_of_hashOperands (i := .hashi m 1) (j := .hash m) hbusy rfl rfl
  obtain rfl := next_unique hu hu'
  exact ⟨t, u, v, ht, hu, hv, htlanes, htdig, htstatus, hvlanes, hvdig, hvstatus⟩

/-- R57: what was stored is what is read. -/
theorem State.memRead_storeBytes (s : State) (a : Nat) (vs : List Byte) :
    ({ s with msg := Memory.storeBytes s.msg a vs } : State).memRead .msg a vs.length = vs := by
  refine byteList_ext (State.memRead_length _ _ _ _) fun b hb => ?_
  rw [State.memRead_length] at hb
  rw [State.memRead_getD _ _ _ hb, State.sourceByte, State.msgByte_store, if_pos (by omega), Nat.add_sub_cancel_left]

/-- Settles O36: the window of the second command holds the digest of the first, so `hashIter_succ` joins the passes. -/
theorem iterationByHand : Obligations.IterationByHand := by
  intro s t m k b hm hk hfits hcopy hb ht u
  obtain ⟨t', ht', htdone⟩ := exec_hash_of_fits (i := .hash m) rfl hm one_ne_zero hfits
  obtain rfl := next_unique ht ht'
  have hm64 := legalMdlen_le hm
  have haddr : u.inAddr.toNat = b := by
    change (BitVec.ofNat 64 b).toNat = b
    rw [BitVec.toNat_ofNat, Nat.mod_eq_of_lt hb]
  have hlen : u.inLen.toNat = m := by
    change (BitVec.ofNat 64 m).toNat = m
    rw [BitVec.toNat_ofNat, Nat.mod_eq_of_lt (by omega)]
  have hufits : u.windowFits = true := by
    refine decide_eq_true ?_
    rw [haddr, hlen]
    exact hcopy.trans_eq htdone.kept.msgSize.symm
  have hmessage : u.message = (sponge s.message m).1 := by
    have hstored := State.memRead_storeBytes t b (t.memRead .dig 0 m)
    rw [State.memRead_length] at hstored
    rw [State.message, haddr, hlen]
    exact hstored.trans (State.memRead_dig (sponge_digest_length _ (by omega)) htdone.dig)
  obtain ⟨v, hv, hvdone⟩ := exec_hash_of_fits (i := .hashi m (k - 1)) rfl hm (by omega) hufits
  obtain ⟨w, hw, hwdone⟩ := exec_hash_of_fits (i := .hashi m k) rfl hm (by omega) hfits
  have hresult : hashIter u.message m (k - 1) = hashIter s.message m k := by
    rw [hmessage, ← hashIter_succ _ _ _ (by omega), Nat.sub_add_cancel (by omega)]
  obtain ⟨hlanes, hdig, -⟩ := hvdone.same_result hwdone hresult
  exact ⟨v, w, hv, hw, hlanes, hdig, hvdone.same_status hwdone htdone.completed.err htdone.completed.ecode⟩

theorem message_congr {s s' : State} (haddr : s.inAddr = s'.inAddr) (hlen : s.inLen = s'.inLen)
    (hmsg : ∀ a, s.inAddr.toNat ≤ a → a < s.inAddr.toNat + s.inLen.toNat → s.msgByte a = s'.msgByte a) :
    s.message = s'.message := by
  rw [State.message, State.message, ← haddr, ← hlen]
  refine byteList_ext (by simp) fun b hb => ?_
  rw [State.memRead_length] at hb
  rw [State.memRead_getD _ _ _ hb, State.memRead_getD _ _ _ hb]
  exact hmsg _ (by omega) (by omega)

/-- Settles O37: equal windows hold equal messages, and the message fixes the result. -/
theorem hashDependsOnlyOnItsWindow : Obligations.HashDependsOnlyOnItsWindow := by
  intro i m k s s' hi hr hr' haddr hlen hmsg
  obtain ⟨t, ht, htdone⟩ := exec_hash hi hr
  obtain ⟨t', ht', htdone'⟩ := exec_hash hi hr'
  exact ⟨t, t', ht, ht', htdone.same_result htdone' (by rw [message_congr haddr hlen hmsg])⟩

/-! ### A known answer -/

/-- Vector H32-0: the SHA3-256 digest of the empty message. -/
theorem sponge_empty_digest : (sponge [] 32).1 =
    [0xa7, 0xff, 0xc6, 0xf8, 0xbf, 0x1e, 0xd7, 0x66, 0x51, 0xc1, 0x47, 0x56, 0xa0, 0x61, 0xd6, 0x62,
     0xf5, 0x80, 0xff, 0x4d, 0xe4, 0x3b, 0x49, 0xfa, 0x82, 0xd8, 0x0a, 0x4b, 0x80, 0xf8, 0x43, 0x4a] := by
  decide +kernel

/-- Settles O38: the window is empty after reset, so the digest is that of the empty message. -/
theorem emptyMessageKnownAnswer : Obligations.EmptyMessageKnownAnswer := by
  obtain ⟨t, ht, hdone⟩ := exec_hash_of_fits (i := .sum256) (s := State.reset) rfl rfl one_ne_zero rfl
  refine ⟨t, ht, ?digest, BitVec.eq_of_toNat_eq hdone.dlen⟩
  have hempty : State.reset.message = [] := rfl
  rw [hdone.dig, hempty, hashIter_one, sponge_empty_digest]
  rfl

end Sys2Proof.Machine
end

section
/-! SUPPORT. The host's turn (rules R56 to R60, R71): what an allowed transaction does, and the step that issues a
command. -/

namespace Sys2Proof.Machine

/-! ### Transactions that issue no command -/

theorem cmdWord_eq_some_iff {t : Transaction} {w : Word} : t.cmdWord = some w ↔ t = .write .reg 0x000 8 w := by
  rcases t with ⟨space, a, n⟩ | ⟨_ | _, a, n, v⟩ <;> simp [Transaction.cmdWord, and_assoc]

/-- A write of `REG` replaces the whole register (R56). -/
theorem State.perform_writeReg (s : State) (r : Reg) (n : Nat) (v : Word) :
    s.perform (.write .reg r.offset n v) = (s.writeReg r v).withAnswer .ok := by
  rw [State.perform, regAt_offset]
  rfl

/-- What an allowed transaction that does not write `CMD` can do (R56, R57): answer a read, write one of the operand
registers or a lane, or store bytes inside `MSG`. -/
theorem perform_cases {s : State} {t : Transaction} (ht : s.allows t = true) (hcmd : t.cmdWord = none) :
    (∃ a, s.perform t = s.withAnswer a) ∨
    (∃ v, s.perform t = ({ s with inAddr := v } : State).withAnswer .ok) ∨
    (∃ v, s.perform t = ({ s with inLen := v } : State).withAnswer .ok) ∨
    (∃ (i : Fin 25) (v : Word), s.perform t = ({ s with lanes := s.lanes.set i v } : State).withAnswer .ok) ∨
    ∃ a vs, a + vs.length ≤ s.msgSize ∧
      s.perform t = ({ s with msg := Memory.storeBytes s.msg a vs } : State).withAnswer .ok := by
  rcases t with ⟨_ | _, a, n⟩ | ⟨_ | _, a, n, v⟩
  · exact .inl ⟨_, rfl⟩
  · exact .inl ⟨_, rfl⟩
  · obtain ⟨-, rfl, r, rfl, hr⟩ := allows_writeReg_iff.mp ht
    rw [State.perform_writeReg]
    cases r with
    | cmd => cases hcmd
    | status | digest j => cases hr
    | inAddr => exact .inr (.inl ⟨v, rfl⟩)
    | inLen => exact .inr (.inr (.inl ⟨v, rfl⟩))
    | lane i => exact .inr (.inr (.inr (.inl ⟨i, v, rfl⟩)))
  · obtain ⟨-, -, hin⟩ := allows_writeMsg_iff.mp ht
    refine .inr (.inr (.inr (.inr ⟨a, (bytes8 v).take n, ?_, rfl⟩)))
    rw [List.length_take]
    omega

/-- R27: only a write of `CMD` touches the flags. -/
theorem respond_flags {s : State} {t : Transaction} (ht : s.allows t = false ∨ t.cmdWord = none) :
    (s.respond t).busy = s.busy ∧ (s.respond t).done = s.done ∧ (s.respond t).err = s.err ∧
      (s.respond t).ecode = s.ecode := by
  cases hallowed : s.allows t with
  | false =>
    rw [respond_refused hallowed]
    exact ⟨rfl, rfl, rfl, rfl⟩
  | true =>
    have hcmd : t.cmdWord = none := ht.resolve_left (by simp [hallowed])
    rw [respond_allowed hallowed]
    obtain ⟨a, h⟩ | ⟨v, h⟩ | ⟨v, h⟩ | ⟨i, v, h⟩ | ⟨a, vs, -, h⟩ := perform_cases hallowed hcmd
    all_goals
      rw [h]
      exact ⟨rfl, rfl, rfl, rfl⟩

/-- With no command running there is nothing to wait for. -/
theorem hostTurn_idle {s : State} {t : Transaction} (hbusy : s.busy = false)
    (ht : s.allows t = false ∨ t.cmdWord = none) (wait : Bool) : hostTurn t wait s = .next (s.respond t) := by
  rw [hostTurn_plain ht, State.finish_not_busy ((respond_flags ht).1.trans hbusy), ite_self]

/-! ### The step that issues a command -/

/-- The state in which a command is decoded: its event taken, its word latched, the answer given (R71 step 1). -/
def State.issued (s : State) (w : Word) (rest : List Event) : State :=
  (({ s with events := rest } : State).latch w).withAnswer .ok

theorem step_issue {s : State} (hbusy : s.busy = false) (w : Word) (wait : Bool) (rest : List Event) :
    step (s.withIssue w wait rest) = issue w wait (s.issued w rest) :=
  hostTurn_issue (s := { s with events := rest }) hbusy w wait

theorem issue_wait {w : Word} {i : Instr} (hw : decode w = .ok i) (s : State) : issue w true s = exec i s := by
  rw [issue, hw]
  rfl

theorem issue_start {w : Word} {i : Instr} (hw : decode w = .ok i) (s : State) :
    issue w false s = .next (startCommand i s) := by
  rw [issue, hw]
  rfl

theorem issue_next (w : Word) (wait : Bool) (s : State) : ∃ t, issue w wait s = .next t := by
  cases hw : decode w with
  | error e => exact ⟨_, issue_illegal hw wait s⟩
  | ok i =>
    cases wait with
    | false => exact ⟨_, issue_start hw s⟩
    | true => exact ⟨_, (issue_wait hw s).trans (exec_eq_start i s)⟩

/-- Latching the word leaves the checks of the command as they are. -/
theorem refusalOf_issued (i : Instr) (s : State) (w : Word) (rest : List Event) :
    refusalOf i (s.issued w rest) = refusalOf i s :=
  refusalOf_congr rfl i

/-- A command on an idle block, run whole, leaves it idle. -/
theorem exec_idle {s : State} (hbusy : s.busy = false) (i : Instr) :
    ∃ t, exec i s = .next t ∧ t.busy = false ∧ OperandsKept s t := by
  cases hr : refusalOf i s with
  | some e => exact ⟨_, exec_refused hbusy hr, hbusy, exec_kept (exec_refused hbusy hr)⟩
  | none =>
    obtain ⟨t, ht, hdone⟩ := acceptedCommandsComplete i s hr
    exact ⟨t, ht, hdone.busy, exec_kept ht⟩

/-- A waiting host finds the block idle, with its word in `CMD` (R71). -/
theorem issue_wait_idle {s : State} (hbusy : s.busy = false) (w : Word) :
    ∃ t, issue w true s = .next t ∧ t.busy = false ∧ OperandsKept s t := by
  cases hw : decode w with
  | error e => exact ⟨_, issue_illegal hw true s, hbusy, by constructor <;> rfl⟩
  | ok i =>
    rw [issue_wait hw]
    exact exec_idle hbusy i

/-! ### The start of an accepted command -/

theorem startCommand_running {i : Instr} {s : State} (hr : refusalOf i s = none) :
    (startCommand i s).busy = true ∧ (startCommand i s).done = s.done := by
  obtain ⟨nr, hnr, rfl⟩ | ⟨m, k, hi⟩ := accepted_cases hr
  · rw [startCommand_permute s hnr]
    exact ⟨rfl, rfl⟩
  · rw [startCommand_hash hi hr]
    exact ⟨rfl, rfl⟩

/-- A start neither sees nor changes the event list. -/
theorem startCommand_events (i : Instr) (s : State) (es : List Event) :
    startCommand i { s with events := es } = { startCommand i s with events := es } := by
  have hcheck : refusalOf i { s with events := es } = refusalOf i s := refusalOf_congr rfl i
  cases hr : refusalOf i s with
  | some e =>
    rw [startCommand_refused hr, startCommand_refused (hcheck.trans hr)]
    rfl
  | none =>
    obtain ⟨nr, hnr, rfl⟩ | ⟨m, k, hi⟩ := accepted_cases hr
    · rw [startCommand_permute _ hnr, startCommand_permute _ hnr]
      rfl
    · rw [startCommand_hash hi hr, startCommand_hash hi (hcheck.trans hr)]
      rfl

end Sys2Proof.Machine
end

section
/-! SUPPORT. The statements on steps of the host: the issue of a command (R71, R191, R196), the register map (R30) and
reads (R60). -/

namespace Sys2Proof.Machine

/-- Settles O56: every kind of event has its next state; a turn of the host is plain or issues a word. -/
theorem stepAlwaysAnswersANextState : Obligations.StepAlwaysAnswersANextState := by
  have hturn (t : Transaction) (wait : Bool) (s : State) : ∃ u, hostTurn t wait s = .next u := by
    by_cases hplain : s.allows t = false ∨ t.cmdWord = none
    · exact ⟨_, hostTurn_plain hplain wait⟩
    · push Not at hplain
      obtain ⟨w, hw⟩ := Option.ne_none_iff_exists'.mp hplain.2
      unfold hostTurn
      rw [Bool.eq_true_of_not_eq_false hplain.1, hw]
      exact issue_next w wait _
  intro s
  cases hevents : s.events with
  | nil => exact ⟨_, step_no_event hevents⟩
  | cons e rest =>
    rw [step_event hevents]
    cases e with
    | host t wait => exact hturn t wait _
    | engine => exact ⟨_, rfl⟩
    | reset => exact ⟨_, rfl⟩

/-- Settles O39: `step_issue`, for a word in the event list and for one placed by `withFetchWord`. -/
theorem stepRunsTheDecodedCommand : Obligations.StepRunsTheDecodedCommand := by
  refine ⟨fun s w rest i hbusy hw => ⟨wellFormed_of_decode hw, ?whole, ?start⟩, fun s nbits w i hw => ?placed⟩
  case whole => exact (step_issue hbusy w true rest).trans (issue_wait hw _)
  case start => exact (step_issue hbusy w false rest).trans (issue_start hw _)
  case placed =>
    have hdecode : decode (tableWord nbits w) = .ok i := by
      rw [decodeTableWord] at hw
      cases hd : decode (tableWord nbits w) with
      | error e => rw [hd] at hw; cases hw
      | ok j => rw [hd] at hw; exact congrArg _ (Option.some.inj hw)
    exact (step_issue (s := { s with busy := false, phase := .idle }) rfl _ true s.events).trans (issue_wait hdecode _)

/-- R26: `STATUS` after a completion without error. -/
theorem Completed.statusWord {s t : State} (h : Completed s t) (herr : s.err = false) (hecode : s.ecode = 0) :
    t.statusWord = BitVec.ofNat 64 (2 ^ 16 * t.dlen.toNat + 2) := by
  rw [State.statusWord, h.busy, h.done, h.err, h.ecode, herr, hecode]
  congr 1
  change 0 + 2 * 1 + 4 * 0 + 2 ^ 8 * 0 + 2 ^ 16 * t.dlen.toNat = _
  omega

/-- R160, R112: `DLEN` is the digest length of a hash command, and `PERMUTE` keeps it. -/
theorem exec_dlen {i : Instr} {s : State} (hr : refusalOf i s = none) :
    ∃ t, exec i s = .next t ∧ Completed s t ∧
      t.dlen.toNat = ((hashOperands i).map Prod.fst).getD s.dlen.toNat := by
  obtain ⟨nr, hnr, rfl⟩ | ⟨m, k, hi⟩ := accepted_cases hr
  · obtain ⟨t, ht, -, hcompleted, -, -, hdlen⟩ := permuteResult nr s hnr
    exact ⟨t, ht, hcompleted, congrArg _ hdlen⟩
  · obtain ⟨t, ht, hdone⟩ := exec_hash hi hr
    exact ⟨t, ht, hdone.completed, by rw [hdone.dlen, hi]; rfl⟩

/-- Settles O41: latching has cleared the error flags, so `STATUS` holds `DONE` and the length of `exec_dlen`. -/
theorem statusAfterAcceptedCommand : Obligations.StatusAfterAcceptedCommand := by
  intro s w rest i hbusy hw hr
  obtain ⟨t, ht, hcompleted, hdlen⟩ := exec_dlen ((refusalOf_issued i s w rest).trans hr)
  obtain ⟨-, hcmd, -, -, -, -, hevents, hanswer⟩ := exec_kept ht
  refine ⟨t, ?step, hcmd, hanswer, hevents, ?status⟩
  case step => rw [step_issue hbusy, issue_wait hw, ht]
  case status =>
    rw [hcompleted.statusWord rfl rfl, hdlen]
    rfl

/-- Settles O42: plain transactions by `respond_flags`, commands by their start and completion, refusals by O32; the
word of any command is latched over the old flags. -/
theorem errorStateIsLeftByTheNextCommand : Obligations.ErrorStateIsLeftByTheNextCommand := by
  refine ⟨fun s t wait rest hbusy ht => ?plain, fun s => State.advance_not_busy,
    fun s w rest i hbusy hw hr => ⟨?started, ?completed⟩, fun s w wait rest e hbusy he => ?refused,
    fun s w wait rest d e c hbusy => ?overwritten⟩
  case plain =>
    have ht' : ({ s with events := rest } : State).allows t = false ∨ t.cmdWord = none := by
      rwa [allows_withEvents]
    obtain ⟨-, hdone, herr, hecode⟩ := respond_flags ht'
    exact ⟨_, hostTurn_idle (s := { s with events := rest }) hbusy ht' wait, hdone, herr, hecode⟩
  case started =>
    have hr' := (refusalOf_issued i s w rest).trans hr
    obtain ⟨hrunning, hdone⟩ := startCommand_running hr'
    obtain ⟨herr, hecode⟩ := startCommand_error hr'
    exact ⟨_, (step_issue hbusy w false rest).trans (issue_start hw _), hrunning, hdone, herr, hecode⟩
  case completed =>
    obtain ⟨t, ht, hcompleted⟩ := acceptedCommandsComplete i _ ((refusalOf_issued i s w rest).trans hr)
    exact ⟨t, ((step_issue hbusy w true rest).trans (issue_wait hw _)).trans ht, hcompleted.busy, hcompleted.done,
      hcompleted.err, hcompleted.ecode⟩
  case refused =>
    exact ⟨_, refusedCommandTouchesOnlyStatusAndCmd s w wait rest e hbusy he, hbusy, rfl, rfl, rfl⟩
  case overwritten =>
    exact (step_issue (s := { s with done := d, err := e, ecode := c }) hbusy w wait rest).trans
      (step_issue hbusy w wait rest).symm

/-- Settles O43: the command keeps the latched word, and the read finds the block idle. -/
theorem cmdReadsBack : Obligations.CmdReadsBack := by
  intro s w rest hbusy
  obtain ⟨t, ht, hidle, hkept⟩ :=
    issue_wait_idle (s := s.issued w (.host (.read .reg 0x000 8) true :: rest)) hbusy w
  refine ⟨t, (step_issue hbusy w true _).trans ht, hidle, ?read⟩
  have hallowed : ({ t with events := rest } : State).allows (.read .reg 0x000 8) = true :=
    allows_readReg_iff.mpr ⟨.inl hidle, rfl, .cmd, rfl⟩
  have hturn := hostTurn_idle (s := { t with events := rest }) hidle (t := .read .reg 0x000 8) (.inr rfl) true
  refine ⟨_, (step_event hkept.events).trans hturn, ?answer, ?events⟩
  all_goals rw [respond_allowed hallowed]
  case answer => exact congrArg (some ∘ Answer.value) hkept.cmd
  case events => rfl

theorem Reg.offset_injective : Function.Injective Reg.offset := fun r q h =>
  Option.some.inj ((regAt_offset r).symm.trans (h ▸ regAt_offset q))

/-- Settles O45: the offsets by `regAt_eq_some_iff` and `exists_offset_iff`, the accesses by their rules, the engine by
`State.advance_kept`. -/
theorem registerMap : Obligations.RegisterMap := by
  have hnone (a : Nat) : regAt a = none ↔ ¬ ∃ r : Reg, a = r.offset := by
    simp [Option.eq_none_iff_forall_ne_some, regAt_eq_some_iff]
  refine ⟨⟨rfl, rfl, rfl, rfl, fun _ => rfl, fun _ => rfl⟩, fun a r => regAt_eq_some_iff, fun a => ?unmapped,
    fun s r v hbusy => ⟨?read, ?write⟩, allows_statusRead, fun s a n v ha => ⟨respond_refused ?noRead,
    respond_refused ?noWrite⟩, fun s => ⟨s.advance_kept.cmd, s.advance_kept.inAddr, s.advance_kept.inLen⟩⟩
  case unmapped =>
    rw [hnone, exists_offset_iff]
    omega
  case read => exact allows_readReg_iff.mpr ⟨.inl hbusy, rfl, r, rfl⟩
  case write =>
    have hwritable : s.allows (wr r v) = true ↔ r.writable = true := by
      rw [wr, allows_writeReg_iff]
      exact ⟨fun ⟨_, _, q, hq, hw⟩ => Reg.offset_injective hq ▸ hw, fun hw => ⟨hbusy, rfl, r, rfl, hw⟩⟩
    rw [hwritable]
    cases r <;> simp [Reg.writable]
  case noRead =>
    refine Bool.eq_false_iff.mpr fun h => (hnone a).mp ha ?_
    obtain ⟨-, -, r, hr⟩ := allows_readReg_iff.mp h
    exact ⟨r, hr⟩
  case noWrite =>
    refine Bool.eq_false_iff.mpr fun h => (hnone a).mp ha ?_
    obtain ⟨-, -, r, hr, -⟩ := allows_writeReg_iff.mp h
    exact ⟨r, hr⟩

/-- R60: the answer to a read, allowed or not, depends neither on the events to come nor on the last answer, and it is
all the read changes. -/
theorem exists_answer_to_read (s : State) (space : Space) (a n : Nat) :
    ∃ b, ∀ es ans, ({ s with events := es, answer := ans } : State).respond (.read space a n) =
      { s with events := es, answer := some b } := by
  have hallows (es : List Event) (ans : Option Answer) :
      ({ s with events := es, answer := ans } : State).allows (.read space a n) = s.allows (.read space a n) := by
    cases space <;> rfl
  cases hr : s.allows (.read space a n) with
  | false => exact ⟨.error, fun es ans => by rw [respond_refused ((hallows es ans).trans hr)]; rfl⟩
  | true =>
    have hperform (es : List Event) (ans : Option Answer) := respond_allowed ((hallows es ans).trans hr)
    cases space with
    | msg => exact ⟨.value (le64 (s.memRead .msg a n)), fun es ans => hperform es ans⟩
    | reg =>
      obtain ⟨-, -, r, rfl⟩ := allows_readReg_iff.mp hr
      refine ⟨.value (s.readReg r), fun es ans => (hperform es ans).trans ?_⟩
      rw [State.perform, regAt_offset]
      cases r <;> rfl

/-- Settles O50: both reads give the answer of `exists_answer_to_read`. -/
theorem readsChangeNothing : Obligations.ReadsChangeNothing := by
  intro s space a n rest
  obtain ⟨b, hb⟩ := exists_answer_to_read s space a n
  have hturn (u : State) : hostTurn (.read space a n) false u = .next (u.respond (.read space a n)) :=
    hostTurn_plain (.inr rfl) false
  exact ⟨b, (hturn _).trans (congrArg _ (hb _ s.answer)), (hturn _).trans (congrArg _ (hb rest (some b)))⟩

/-- Settles O58: the fields by evaluation; a register of the digest byte by byte. -/
theorem resetState : Obligations.ResetState := by
  refine ⟨rfl, rfl, State.statusWord_afterReset _ _ _, rfl, rfl, rfl, fun b => State.digByte_afterReset _ _ _, rfl,
    fun r => ?registers⟩
  cases r with
  | cmd | status | inAddr | inLen => rfl
  | lane i => exact lane_zeroLanes i.val
  | digest j =>
    refine word_eq_of_byteOf_eq fun b hb => ?_
    rw [State.readReg, State.byteOf_loadLane _ _ _ hb, byteOf_zero]
    exact State.digByte_afterReset _ _ _ (by omega)

/-! ### The folded run -/

theorem core_run_succ {s u : State} (h : step s = .next u) (n : Nat) : core.run (n + 1) s = core.run n u := by
  have hcore : core.step s = .next u := h
  simp only [Host.Core.run, hcore]

/-- The engine steps of the event list, one after another, are the engine's run (R193). -/
theorem core_run_engine (n : Nat) (s : State) (rest : List Event) :
    core.run n ({ s with events := List.replicate n .engine ++ rest } : State) =
      .next ({ State.run n s with events := rest } : State) := by
  induction n generalizing s with
  | zero => rfl
  | succ n ih =>
    have hadvance := State.advance_outer s (List.replicate n .engine ++ rest) s.answer
    have hstep : step ({ s with events := List.replicate (n + 1) .engine ++ rest } : State) =
        .next ({ s.advance with events := List.replicate n .engine ++ rest } : State) := by
      refine congrArg Host.Outcome.next (hadvance.trans ?_)
      rw [← s.advance_kept.answer]
    exact (core_run_succ hstep n).trans (ih s.advance)

/-- Settles O53: an illegal word takes no engine step; a command takes as many as its start has left, and they are the
run that the waiting host's step folds. -/
theorem foldedRunEqualsStepwiseRun : Obligations.FoldedRunEqualsStepwiseRun := by
  intro s w rest hbusy
  obtain ⟨t, ht, hidle, -⟩ := issue_wait_idle (s := s.issued w rest) hbusy w
  cases hw : decode w with
  | error e =>
    have hnow : step (s.withIssue w false rest) = .next t := by
      rw [step_issue hbusy, issue_illegal hw, ← issue_illegal hw true, ht]
    exact ⟨0, t, (step_issue hbusy w true rest).trans ht, hidle, core_run_succ hnow 0⟩
  | ok i =>
    set n := (startCommand i (s.issued w rest)).stepsLeft
    have hrun : t = State.run n (startCommand i (s.issued w rest)) :=
      next_unique ht ((issue_wait hw _).trans (exec_eq_start i _))
    have hstart : step (s.withIssue w false (List.replicate n .engine ++ rest)) =
        .next ({ startCommand i (s.issued w rest) with events := List.replicate n .engine ++ rest } : State) := by
      rw [step_issue hbusy, issue_start hw, ← startCommand_events]
      rfl
    refine ⟨n, t, (step_issue hbusy w true rest).trans ht, hidle, (core_run_succ hstart n).trans ?_⟩
    rw [core_run_engine, ← hrun]
    have hevents : t.events = rest := hrun ▸ (State.run_kept n _).events.trans (startCommand_kept i _).events
    rw [← hevents]

/-! ### Hidden registers -/

theorem SameVisible.readReg {s s' : State} (h : SameVisible s s') (r : Reg) : s.readReg r = s'.readReg r := by
  cases r with
  | cmd => exact h.cmd
  | status => simp only [State.readReg, State.statusWord, h.busy, h.done, h.err, h.ecode, h.dlen]
  | inAddr => exact h.inAddr
  | inLen => exact h.inLen
  | digest j => simp only [State.readReg, State.loadLane, State.memRead, State.sourceByte, State.digByte, h.dig]
  | lane i => simp only [State.readReg, h.lanes]

theorem SameVisible.msgByte {s s' : State} (h : SameVisible s s') (a : Nat) : s.msgByte a = s'.msgByte a := by
  simp only [State.msgByte, h.msg, h.resets]

theorem SameVisible.memRead {s s' : State} (h : SameVisible s s') (q : Source) (a n : Nat) :
    s.memRead q a n = s'.memRead q a n :=
  State.memRead_congr h.msgByte h.dig q a n

theorem SameVisible.message {s s' : State} (h : SameVisible s s') : s.message = s'.message :=
  message_congr h.inAddr h.inLen fun a _ _ => h.msgByte a

theorem SameVisible.allows {s s' : State} (h : SameVisible s s') (t : Transaction) : s.allows t = s'.allows t := by
  rcases t with ⟨_ | _, a, n⟩ | ⟨_ | _, a, n, v⟩ <;>
    simp only [State.allows, State.spaceAllows, State.msgAccess, h.busy, h.msgSize]

theorem SameVisible.withEvents {s s' : State} (h : SameVisible s s') (es : List Event) :
    SameVisible { s with events := es } { s' with events := es } :=
  { h with events := rfl }

theorem SameVisible.withAnswer {s s' : State} (h : SameVisible s s') (a : Answer) :
    SameVisible (s.withAnswer a) (s'.withAnswer a) :=
  { h with answer := rfl }

theorem SameVisible.recordError {s s' : State} (h : SameVisible s s') (e : CmdError) :
    SameVisible (s.recordError e) (s'.recordError e) :=
  { h with done := rfl, err := rfl, ecode := rfl }

theorem SameVisible.writeReg {s s' : State} (h : SameVisible s s') (r : Reg) (v : Word) :
    SameVisible (s.writeReg r v) (s'.writeReg r v) := by
  cases r with
  | cmd => exact { h with cmd := rfl, done := rfl, err := rfl, ecode := rfl }
  | status | digest j => exact h
  | inAddr => exact { h with inAddr := rfl }
  | inLen => exact { h with inLen := rfl }
  | lane i => exact { h with lanes := congrArg (fun A : Lanes => A.set i v) h.lanes }

/-- R38: a transaction is answered from what the host can see, and changes only that. -/
theorem SameVisible.respond {s s' : State} (h : SameVisible s s') (t : Transaction) :
    SameVisible (s.respond t) (s'.respond t) := by
  cases ht : s.allows t with
  | false =>
    rw [respond_refused ht, respond_refused ((h.allows t).symm.trans ht)]
    exact h.withAnswer .error
  | true =>
    rw [respond_allowed ht, respond_allowed ((h.allows t).symm.trans ht)]
    rcases t with ⟨_ | _, a, n⟩ | ⟨_ | _, a, n, v⟩
    · obtain ⟨-, -, r, rfl⟩ := allows_readReg_iff.mp ht
      rw [State.perform, State.perform, regAt_offset]
      simp only [Option.map_some, h.readReg r]
      exact h.withAnswer _
    · rw [State.perform, State.perform, h.memRead]
      exact h.withAnswer _
    · obtain ⟨-, -, r, rfl, -⟩ := allows_writeReg_iff.mp ht
      rw [State.perform_writeReg, State.perform_writeReg]
      exact (h.writeReg r v).withAnswer .ok
    · exact { h with msg := congrArg (Memory.storeBytes · a _) h.msg, answer := rfl }

/-- Two completed commands that left the same in `S`, `DIG` and `DLEN`. -/
theorem SameVisible.of_completed {s s' t t' : State} (h : SameVisible s s') (hc : Completed s t) (hc' : Completed s' t')
    (hk : OperandsKept s t) (hk' : OperandsKept s' t')
    (hresult : t.lanes = t'.lanes ∧ t.dig = t'.dig ∧ t.dlen = t'.dlen) : SameVisible t t' where
  lanes := hresult.1
  cmd := by rw [hk.cmd, hk'.cmd, h.cmd]
  busy := by rw [hc.busy, hc'.busy]
  done := by rw [hc.done, hc'.done]
  err := by rw [hc.err, hc'.err, h.err]
  ecode := by rw [hc.ecode, hc'.ecode, h.ecode]
  dlen := hresult.2.2
  inAddr := by rw [hk.inAddr, hk'.inAddr, h.inAddr]
  inLen := by rw [hk.inLen, hk'.inLen, h.inLen]
  dig := hresult.2.1
  msg := by rw [hk.msg, hk'.msg, h.msg]
  msgSize := by rw [hk.msgSize, hk'.msgSize, h.msgSize]
  resets := by rw [hk.resets, hk'.resets, h.resets]
  events := by rw [hk.events, hk'.events, h.events]
  answer := by rw [hk.answer, hk'.answer, h.answer]

/-- R160, R112: the start of a command sets every hidden register its run uses. -/
theorem SameVisible.exec {s s' : State} (h : SameVisible s s') (hbusy : s.busy = false) (i : Instr) :
    ∃ u u', exec i s = .next u ∧ exec i s' = .next u' ∧ SameVisible u u' ∧ u.busy = false := by
  have hcheck : refusalOf i s = refusalOf i s' :=
    refusalOf_congr (by simp only [State.windowFits, h.inAddr, h.inLen, h.msgSize]) i
  cases hr : refusalOf i s with
  | some e =>
    exact ⟨_, _, exec_refused hbusy hr, exec_refused (h.busy ▸ hbusy) (hcheck ▸ hr), h.recordError e, hbusy⟩
  | none =>
    obtain ⟨nr, hnr, rfl⟩ | ⟨m, k, hi⟩ := accepted_cases hr
    · obtain ⟨u, hu, hlanes, hc, hk, hdig, hdlen⟩ := permuteResult nr s hnr
      obtain ⟨u', hu', hlanes', hc', hk', hdig', hdlen'⟩ := permuteResult nr s' hnr
      have hresult : u.lanes = u'.lanes ∧ u.dig = u'.dig ∧ u.dlen = u'.dlen := by
        rw [hlanes, hlanes', hdig, hdig', hdlen, hdlen', h.lanes, h.dig, h.dlen]
        exact ⟨rfl, rfl, rfl⟩
      exact ⟨u, u', hu, hu', h.of_completed hc hc' hk hk' hresult, hc.busy⟩
    · obtain ⟨u, hu, hdone⟩ := exec_hash hi hr
      obtain ⟨u', hu', hdone'⟩ := exec_hash hi (hcheck ▸ hr)
      exact ⟨u, u', hu, hu', h.of_completed hdone.completed hdone'.completed hdone.kept hdone'.kept
        (hdone.same_result hdone' (by rw [h.message])), hdone.completed.busy⟩

theorem SameVisible.hostTurn {s s' : State} (h : SameVisible s s') (hbusy : s.busy = false) (t : Transaction) :
    ∃ u u', hostTurn t true s = .next u ∧ hostTurn t true s' = .next u' ∧ SameVisible u u' ∧ u.busy = false := by
  have hbusy' : s'.busy = false := h.busy ▸ hbusy
  cases hcmd : t.cmdWord with
  | none =>
    exact ⟨_, _, hostTurn_idle hbusy (.inr hcmd) true, hostTurn_idle hbusy' (.inr hcmd) true, h.respond t,
      (respond_flags (.inr hcmd)).1.trans hbusy⟩
  | some w =>
    obtain rfl := cmdWord_eq_some_iff.mp hcmd
    rw [hostTurn_issue hbusy, hostTurn_issue hbusy']
    have hlatched := (h.writeReg .cmd w).withAnswer .ok
    cases hw : decode w with
    | error e =>
      exact ⟨_, _, issue_illegal hw true _, issue_illegal hw true _, hlatched.recordError .invalidCommand, hbusy⟩
    | ok i =>
      rw [issue_wait hw, issue_wait hw]
      exact hlatched.exec hbusy i

/-- Settles O57: each event of the list on its own; a waiting turn of the host by `SameVisible.hostTurn`. -/
theorem hiddenRegistersAreInvisible : Obligations.HiddenRegistersAreInvisible := by
  intro s s' h hbusy hwaits
  have hbusy' : s'.busy = false := h.busy ▸ hbusy
  cases hevents : s.events with
  | nil =>
    refine ⟨s, s', ?_, ?_, h, hbusy⟩
    · rw [step_no_event hevents, State.advance_not_busy hbusy]
    · rw [step_no_event (h.events ▸ hevents), State.advance_not_busy hbusy']
  | cons e rest =>
    rw [step_event hevents, step_event (h.events ▸ hevents)]
    have hrest := h.withEvents rest
    cases e with
    | host t wait =>
      cases wait with
      | false => exact absurd hevents (hwaits t rest)
      | true => exact hrest.hostTurn hbusy t
    | engine =>
      refine ⟨_, _, rfl, rfl, ?_, ?_⟩
      all_goals rw [State.advance_not_busy (s := { s with events := rest }) hbusy]
      · rwa [State.advance_not_busy (s := { s' with events := rest }) hbusy']
      · exact hbusy
    | reset =>
      refine ⟨_, _, rfl, rfl, ?_, rfl⟩
      simp only [State.resetInput, h.msgSize, h.resets]
      constructor <;> rfl

end Sys2Proof.Machine
end

section
/-! SUPPORT. The engine under the invariant (rules R33, R162, R190, R193): every step of a running command goes on with
it, one step nearer the end, or completes it. -/

namespace Sys2Proof.Machine

/-! ### Steps left -/

theorem State.stepsLeft_idle {s : State} (hbusy : s.busy = false) : s.stepsLeft = 0 := by
  simp [State.stepsLeft, hbusy]

section
variable {s : State} (hbusy : s.busy = true)
include hbusy

theorem State.stepsLeft_perm (hphase : s.phase = .perm) : s.stepsLeft = s.nrl - s.rnd + 1 := by
  simp [State.stepsLeft, hbusy, hphase]

theorem State.stepsLeft_init (hphase : s.phase = .init) :
    s.stepsLeft = s.inLen.toNat / rate s.mdl + 6 + s.laterPassSteps := by
  simp [State.stepsLeft, hbusy, hphase]

theorem State.stepsLeft_absorb (hphase : s.phase = .absorb) :
    s.stepsLeft = s.rem / s.rsiz + 5 + s.laterPassSteps := by
  simp [State.stepsLeft, hbusy, hphase]

theorem State.stepsLeft_pad (hphase : s.phase = .pad) : s.stepsLeft = 4 + s.laterPassSteps := by
  simp [State.stepsLeft, hbusy, hphase]

theorem State.stepsLeft_final (hphase : s.phase = .final) : s.stepsLeft = 3 + s.laterPassSteps := by
  simp [State.stepsLeft, hbusy, hphase]

theorem State.stepsLeft_squeeze (hphase : s.phase = .squeeze) : s.stepsLeft = 2 + s.laterPassSteps := by
  simp [State.stepsLeft, hbusy, hphase]

theorem State.stepsLeft_next (hphase : s.phase = .next) : s.stepsLeft = 1 + s.laterPassSteps := by
  simp [State.stepsLeft, hbusy, hphase]

end

theorem SamePass.laterPassSteps {s t : State} (h : SamePass s t) : t.laterPassSteps = s.laterPassSteps := by
  rw [State.laterPassSteps, State.laterPassSteps, h.kreq, h.pass]

/-! ### What a step of a running command can do -/

/-- The fields of `STATUS` are the same. -/
structure SameStatus (s t : State) : Prop where
  busy : t.busy = s.busy
  done : t.done = s.done
  err : t.err = s.err
  ecode : t.ecode = s.ecode
  dlen : t.dlen = s.dlen

/-- The command running in `s` is still running in `t`, with one step less to go. -/
structure Continues (s t : State) : Prop where
  status : SameStatus s t
  running : (s.phase = .perm ∧ t.phase = .perm ∧ t.rnd ≤ t.nrl ∧ t.nrl ≤ 24 ∧ t.dig = s.dig) ∨
    (t.phase.isHash = true ∧ HashOk t)
  steps : t.stepsLeft + 1 = s.stepsLeft

/-- The command running in `s` had one step to go and is complete in `t`. -/
structure Ends (s t : State) : Prop where
  completed : Completed s t
  lengths : t.dlen = 0 ∨ legalMdlen t.dlen.toNat = true
  digest : ∀ b, t.dlen.toNat ≤ b → t.digByte b = 0
  steps : s.stepsLeft = 1

/-! ### Phase by phase -/

/-- Within a pass the sequencer's registers stay consistent if the rest of the input does. -/
theorem HashOk.of_samePass {s t : State} (h : HashOk s) (hs : s.phase ≠ .init) (hsame : SamePass s t)
    (ht : t.phase ≠ .init) (hdlen : t.dlen = s.dlen) (hdig : ∀ b, s.mdl ≤ b → t.digByte b = 0)
    (hmsg : s.src = .msg → t.ptr + t.rem = s.ptr + s.rem) (hsrc : s.src = .dig → t.ptr = s.ptr ∧ t.rem = s.rem)
    (htail : t.phase.isTail = true → t.rem < t.rsiz) : HashOk t where
  mdl := hsame.mdl ▸ h.mdl
  passes := by rw [hsame.pass, hsame.kreq]; exact h.passes
  rounds := hsame.nrl.trans h.rounds
  window := hsame.kept.windowFits.trans h.window
  dlen := hdlen.trans h.dlen
  digTail := by rwa [hsame.mdl]
  first := fun hphase => absurd hphase ht
  rates := fun _ => by rw [hsame.rsiz, hsame.rsizw, hsame.mdl]; exact h.rates hs
  fromMsg := fun _ hm => by
    rw [hsame.src] at hm
    rw [hsame.pass, hmsg hm, hsame.kept.inAddr, hsame.kept.inLen]
    exact h.fromMsg hs hm
  fromDig := fun _ hd => by
    rw [hsame.src] at hd
    rw [hsame.pass, (hsrc hd).1, (hsrc hd).2, hsame.mdl]
    exact h.fromDig hs hd
  tail := htail

theorem Phase.isTail_spec {p : Phase} (hp : p.isTail = true) : p ≠ .init ∧ p.isHash = true := by
  cases p with
  | idle | perm | init | absorb => cases hp
  | pad | final | squeeze | next => exact ⟨Phase.noConfusion, rfl⟩

/-- The steps of the tail of a pass leave the rest of the input as it is (R134 to R136). -/
theorem continues_of_tail {s t : State} (hs : s.phase.isTail = true) (ht : t.phase.isTail = true) (h : HashOk s)
    (hsame : SamePass s t) (hstatus : SameStatus s t) (hdig : ∀ b, s.mdl ≤ b → t.digByte b = 0)
    (hptr : t.ptr = s.ptr) (hrem : t.rem = s.rem) (hsteps : t.stepsLeft + 1 = s.stepsLeft) : Continues s t := by
  obtain ⟨hinit, -⟩ := Phase.isTail_spec hs
  obtain ⟨hinit', hhash⟩ := Phase.isTail_spec ht
  refine ⟨hstatus, .inr ⟨hhash, h.of_samePass hinit hsame hinit' hstatus.dlen hdig (fun _ => ?_) (fun _ => ⟨hptr, hrem⟩)
    fun _ => ?_⟩, hsteps⟩
  · rw [hptr, hrem]
  · rw [hrem, hsame.rsiz]
    exact h.tail hs

section
variable {s : State} (hbusy : s.busy = true)
include hbusy

/-- R113. -/
theorem advance_perm_cases (hphase : s.phase = .perm) (hbound : s.rnd ≤ s.nrl ∧ s.nrl ≤ 24)
    (hlengths : s.dlen = 0 ∨ legalMdlen s.dlen.toNat = true) (hdigest : ∀ b, s.dlen.toNat ≤ b → s.digByte b = 0) :
    Continues s s.advance ∨ Ends s s.advance := by
  have hsteps := State.stepsLeft_perm hbusy hphase
  rw [State.advance_perm hbusy hphase, State.permStep]
  split_ifs with hmore
  · refine .inl ⟨⟨rfl, rfl, rfl, rfl, rfl⟩, .inl ⟨hphase, hphase, hmore, hbound.2, rfl⟩, ?_⟩
    rw [State.stepsLeft_perm (s := s.roundStep) hbusy hphase, hsteps, State.roundStep_nrl, State.roundStep_rnd]
    omega
  · exact .inr ⟨⟨rfl, rfl, rfl, rfl, rfl⟩, hlengths, hdigest, by omega⟩

/-- R131: the first pass reads the window of `MSG`. -/
theorem advance_init_continues (hphase : s.phase = .init) (h : HashOk s) : Continues s s.advance := by
  rw [State.advance_init hbusy hphase]
  have hok : HashOk s.initStep :=
    { mdl := h.mdl
      passes := h.passes
      rounds := h.rounds
      window := h.window
      dlen := h.dlen
      digTail := h.digTail
      first := fun hinit => by cases hinit
      rates := fun _ => ⟨rfl, rfl⟩
      fromMsg := fun _ _ => ⟨h.first hphase, rfl⟩
      fromDig := fun _ hdig => by cases hdig
      tail := fun htail => by cases htail }
  refine ⟨⟨rfl, rfl, rfl, rfl, rfl⟩, .inr ⟨rfl, hok⟩, ?_⟩
  rw [State.stepsLeft_init hbusy hphase, State.stepsLeft_absorb (s := s.initStep) hbusy rfl]
  change s.inLen.toNat / rate s.mdl + 5 + s.laterPassSteps + 1 = _
  ring

/-- R133: a full block of the input; a digest is shorter than a block, so the pass reads `MSG`. -/
theorem advance_absorb_full_continues (hphase : s.phase = .absorb) (h : HashOk s) (hfull : s.rsiz ≤ s.rem) :
    Continues s s.advance := by
  have hinit : s.phase ≠ .init := by simp [hphase]
  obtain ⟨hrsiz, -⟩ := h.rates hinit
  have hlt := lt_rate_of_legal h.mdl
  rw [State.advance_absorb_full hbusy hphase hfull]
  have hsame := s.absorbFull_samePass
  have hstill : s.absorbFull.phase = .absorb := by simp [State.absorbFull, hphase]
  have hptr : s.absorbFull.ptr = s.ptr + s.rsiz := by simp [State.absorbFull]
  have hrem : s.absorbFull.rem = s.rem - s.rsiz := by simp [State.absorbFull]
  have hstatus : SameStatus s s.absorbFull := by constructor <;> simp [State.absorbFull]
  have hdig : s.absorbFull.dig = s.dig := by simp [State.absorbFull]
  have hok : HashOk s.absorbFull := by
    refine h.of_samePass hinit hsame (by simp [hstill]) hstatus.dlen (fun b hb => ?_) (fun _ => ?_) (fun hd => ?_)
      fun htail => ?_
    · rw [State.digByte, hdig]
      exact h.digTail b hb
    · rw [hptr, hrem]
      omega
    · obtain ⟨-, -, hshort⟩ := h.fromDig hinit hd
      omega
    · rw [hstill] at htail
      cases htail
  refine ⟨hstatus, .inr ⟨by rw [hstill]; rfl, hok⟩, ?_⟩
  rw [State.stepsLeft_absorb (hsame.busy.trans hbusy) hstill, State.stepsLeft_absorb hbusy hphase, hrem, hsame.rsiz,
    hsame.laterPassSteps, Nat.div_eq_sub_div (by omega) hfull]
  ring

/-- R134: less than a block is left. -/
theorem advance_absorb_tail_continues (hphase : s.phase = .absorb) (h : HashOk s) (htail : s.rem < s.rsiz) :
    Continues s s.advance := by
  rw [State.advance_absorb_tail hbusy hphase htail]
  have hsame := s.withPhase_samePass .pad
  have hok : HashOk { s with phase := .pad } :=
    h.of_samePass (by simp [hphase]) hsame (by simp) rfl h.digTail (fun _ => rfl) (fun _ => ⟨rfl, rfl⟩) fun _ => htail
  refine ⟨⟨rfl, rfl, rfl, rfl, rfl⟩, .inr ⟨rfl, hok⟩, ?_⟩
  rw [State.stepsLeft_absorb hbusy hphase, State.stepsLeft_pad (s := { s with phase := .pad }) hbusy rfl,
    hsame.laterPassSteps, Nat.div_eq_of_lt htail]
  ring

theorem advance_pad_continues (hphase : s.phase = .pad) (h : HashOk s) : Continues s s.advance := by
  rw [State.advance_pad hbusy hphase]
  have hsame := s.padStep_samePass.trans (s.padStep.withPhase_samePass .final)
  refine continues_of_tail (by rw [hphase]; rfl) rfl h hsame ⟨rfl, rfl, rfl, rfl, rfl⟩ h.digTail rfl rfl ?_
  rw [State.stepsLeft_pad hbusy hphase, State.stepsLeft_final (s := { s.padStep with phase := .final }) hbusy rfl,
    hsame.laterPassSteps]
  ring

theorem advance_final_continues (hphase : s.phase = .final) (h : HashOk s) : Continues s s.advance := by
  rw [State.advance_final hbusy hphase]
  have hsame := s.absorbFinal_samePass.trans (s.absorbFinal.withPhase_samePass .squeeze)
  have hstatus : SameStatus s { s.absorbFinal with phase := .squeeze } := by constructor <;> simp [State.absorbFinal]
  refine continues_of_tail (by rw [hphase]; rfl) rfl h hsame hstatus (fun b hb => ?_) (by simp [State.absorbFinal])
    (by simp [State.absorbFinal]) ?_
  · have hdig : s.absorbFinal.dig = s.dig := by simp [State.absorbFinal]
    change s.absorbFinal.digByte b = 0
    rw [State.digByte, hdig]
    exact h.digTail b hb
  · rw [State.stepsLeft_final hbusy hphase, State.stepsLeft_squeeze (hsame.busy.trans hbusy) rfl, hsame.laterPassSteps]
    ring

theorem advance_squeeze_continues (hphase : s.phase = .squeeze) (h : HashOk s) : Continues s s.advance := by
  rw [State.advance_squeeze hbusy hphase]
  have hsame := s.squeezeStep_samePass.trans (s.squeezeStep.withPhase_samePass .next)
  refine continues_of_tail (by rw [hphase]; rfl) rfl h hsame ⟨rfl, rfl, rfl, rfl, rfl⟩ (fun b hb => ?_) rfl rfl ?_
  · exact (State.digByte_squeezeStep s b).trans (if_neg (by omega))
  · rw [State.stepsLeft_squeeze hbusy hphase,
      State.stepsLeft_next (s := { s.squeezeStep with phase := .next }) hbusy rfl, hsame.laterPassSteps]
    ring

/-- R162: another pass over the digest, or the end with `DLEN` set. -/
theorem advance_next_cases (hphase : s.phase = .next) (h : HashOk s) : Continues s s.advance ∨ Ends s s.advance := by
  obtain ⟨hpos, hle, hbound⟩ := h.passes
  have hsteps := State.stepsLeft_next hbusy hphase
  rw [State.laterPassSteps] at hsteps
  rcases Nat.lt_or_ge s.pass s.kreq with hmore | hlast
  · rw [State.advance_next_pass hbusy hphase hmore]
    have hok : HashOk s.anotherPass :=
      { mdl := h.mdl
        passes := ⟨Nat.le_add_left _ _, hmore, hbound⟩
        rounds := h.rounds
        window := h.window
        dlen := h.dlen
        digTail := h.digTail
        first := fun hinit => by cases hinit
        rates := fun _ => ⟨rfl, rfl⟩
        fromMsg := fun _ hmsg => by cases hmsg
        fromDig := fun _ _ => ⟨Nat.succ_le_succ hpos, rfl, rfl⟩
        tail := fun htail => by cases htail }
    refine .inl ⟨⟨rfl, rfl, rfl, rfl, rfl⟩, .inr ⟨rfl, hok⟩, ?_⟩
    have hshort : s.anotherPass.rem / s.anotherPass.rsiz = 0 := Nat.div_eq_of_lt (lt_rate_of_legal h.mdl)
    have hlater : s.anotherPass.laterPassSteps = 5 * (s.kreq - (s.pass + 1)) := rfl
    rw [State.stepsLeft_absorb (s := s.anotherPass) hbusy rfl, hsteps, hshort, hlater]
    omega
  · rw [State.advance_next_last hbusy hphase (Nat.le_antisymm hle hlast)]
    have hdlen := toNat_ofNat_of_legal h.mdl
    refine .inr ⟨⟨rfl, rfl, rfl, rfl, rfl⟩, .inr ?_, fun b hb => h.digTail b ?_, by omega⟩
    · exact hdlen.symm ▸ h.mdl
    · exact hdlen ▸ hb

/-- Every step of a running command under the invariant, by its phase. -/
theorem Inv.advance_cases (h : Inv s) : Continues s s.advance ∨ Ends s s.advance := by
  have hok (hhash : s.phase.isHash = true) : HashOk s := h.sequencer.hash hhash
  cases hphase : s.phase with
  | idle =>
    rw [h.sequencer.idle.mpr hphase] at hbusy
    cases hbusy
  | perm =>
    exact advance_perm_cases hbusy hphase (h.sequencer.perm hphase) h.status.lengths (h.digest (by rw [hphase]; rfl))
  | init => exact .inl (advance_init_continues hbusy hphase (hok (by rw [hphase]; rfl)))
  | absorb =>
    have hhash := hok (by rw [hphase]; rfl)
    rcases Nat.lt_or_ge s.rem s.rsiz with htail | hfull
    · exact .inl (advance_absorb_tail_continues hbusy hphase hhash htail)
    · exact .inl (advance_absorb_full_continues hbusy hphase hhash hfull)
  | pad => exact .inl (advance_pad_continues hbusy hphase (hok (by rw [hphase]; rfl)))
  | final => exact .inl (advance_final_continues hbusy hphase (hok (by rw [hphase]; rfl)))
  | squeeze => exact .inl (advance_squeeze_continues hbusy hphase (hok (by rw [hphase]; rfl)))
  | next => exact advance_next_cases hbusy hphase (hok (by rw [hphase]; rfl))

end

end Sys2Proof.Machine
end

section
/-! SUPPORT. The invariant of the machine (rules R27, R29, R31, R33) and what every step makes of it. -/

namespace Sys2Proof.Machine

/-! ### Updates that keep it -/

/-- The invariant says nothing of the lanes, of `CMD` and of the model's own fields. -/
theorem Inv.update {s : State} (h : Inv s) (A : Lanes) (w : Word) (es : List Event) (a : Option Answer) :
    Inv { s with lanes := A, cmd := w, events := es, answer := a } where
  memory := ⟨h.memory.sorted, h.memory.inside, h.memory.size⟩
  status := ⟨h.status.busyFlags, h.status.errFlags, h.status.noError, h.status.codes, h.status.lengths⟩
  sequencer := ⟨h.sequencer.idle, h.sequencer.perm, fun hhash =>
    { h.sequencer.hash hhash with mdl := (h.sequencer.hash hhash).mdl }⟩
  digest := h.digest

theorem MemoryOk.of_kept {s t : State} (h : MemoryOk s) (hk : OperandsKept s t) : MemoryOk t where
  sorted := hk.msg ▸ h.sorted
  inside := by rw [hk.msg, hk.msgSize]; exact h.inside
  size := hk.msgSize ▸ h.size

/-- On an idle block the sequencer's clauses say nothing more. -/
theorem Inv.of_idle {t : State} (hmemory : MemoryOk t) (hstatus : StatusOk t) (hbusy : t.busy = false)
    (hphase : t.phase = .idle) (hdigest : ∀ b, t.dlen.toNat ≤ b → t.digByte b = 0) : Inv t where
  memory := hmemory
  status := hstatus
  sequencer :=
    { idle := ⟨fun _ => hphase, fun _ => hbusy⟩
      perm := fun h => by rw [hphase] at h; cases h
      hash := fun h => by rw [hphase] at h; cases h }
  digest := fun _ => hdigest

section
variable {s : State} (h : Inv s) (hbusy : s.busy = false)
include h hbusy

theorem Inv.phase_idle : s.phase = .idle := h.sequencer.idle.mp hbusy

theorem Inv.digest_idle : ∀ b, s.dlen.toNat ≤ b → s.digByte b = 0 :=
  h.digest (by rw [h.phase_idle hbusy]; rfl)

/-- R57: a write stays inside `MSG` and keeps its cells in order. -/
theorem Inv.writeMsg {a : Nat} {vs : List Byte} (hin : a + vs.length ≤ s.msgSize) :
    Inv { s with msg := Memory.storeBytes s.msg a vs } := by
  refine .of_idle ⟨Memory.wf_storeBytes h.memory.sorted a vs, fun c hc => ?inside, h.memory.size⟩
    ⟨h.status.busyFlags, h.status.errFlags, h.status.noError, h.status.codes, h.status.lengths⟩ hbusy
    (h.phase_idle hbusy) (h.digest_idle hbusy)
  rcases Memory.mem_storeBytes hc with hnew | hold
  · exact hnew.2.trans_le hin
  · exact h.memory.inside c hold

/-- R28: the operand registers of an idle block may hold anything. -/
theorem Inv.writeOperands (a n : Word) : Inv { s with inAddr := a, inLen := n } :=
  .of_idle ⟨h.memory.sorted, h.memory.inside, h.memory.size⟩
    ⟨h.status.busyFlags, h.status.errFlags, h.status.noError, h.status.codes, h.status.lengths⟩ hbusy
    (h.phase_idle hbusy) (h.digest_idle hbusy)

/-- R71 step 1. -/
theorem Inv.latch (w : Word) : Inv (s.latch w) :=
  .of_idle ⟨h.memory.sorted, h.memory.inside, h.memory.size⟩
    ⟨fun _ => ⟨rfl, rfl⟩, fun herr => (by cases herr), fun _ => rfl, Nat.zero_le _, h.status.lengths⟩ hbusy
    (h.phase_idle hbusy) (h.digest_idle hbusy)

/-- R180, R188. -/
theorem Inv.recordError (e : CmdError) : Inv (s.recordError e) := by
  have hcode : e.code ≠ 0 ∧ e.code.toNat ≤ 5 := by cases e <;> decide
  refine .of_idle ⟨h.memory.sorted, h.memory.inside, h.memory.size⟩
    ⟨fun hb => ?busy, fun _ => ⟨rfl, hcode.1⟩, fun herr => (by cases herr), hcode.2, h.status.lengths⟩ hbusy
    (h.phase_idle hbusy) (h.digest_idle hbusy)
  rw [State.recordError_busy, hbusy] at hb
  cases hb

/-- R189: the start of an accepted command, the flags cleared and its operands fitting their fields. -/
theorem Inv.startCommand {i : Instr} (hdone : s.done = false) (herr : s.err = false) (hi : i.wellFormed = true)
    (hr : refusalOf i s = none) : Inv (startCommand i s) := by
  have hecode := h.status.noError herr
  obtain ⟨nr, hnr, rfl⟩ | ⟨m, k, hmk⟩ := accepted_cases hr
  · rw [startCommand_permute s hnr]
    exact {
      memory := ⟨h.memory.sorted, h.memory.inside, h.memory.size⟩
      status := ⟨fun _ => ⟨hdone, herr⟩, h.status.errFlags, h.status.noError, h.status.codes, h.status.lengths⟩
      sequencer := ⟨⟨fun hb => (by cases hb), fun hp => (by cases hp)⟩, fun _ => ⟨Nat.zero_le _, hnr⟩,
        fun hp => by cases hp⟩
      digest := fun _ => h.digest_idle hbusy }
  · obtain ⟨hm, hk, hfits⟩ := hashCheck_none.mp ((refusalOf_hash hmk).symm.trans hr)
    have hbound : k < 2 ^ 32 := by
      cases i with
      | permute nr => cases hmk
      | hashi mdlen n =>
        obtain ⟨-, rfl⟩ := Prod.mk.inj (Option.some.inj hmk)
        exact (wellFormed_hashi_iff.mp hi).2
      | hash | sum224 | sum256 | sum384 | sum512 =>
        obtain ⟨-, rfl⟩ := Prod.mk.inj (Option.some.inj hmk)
        decide
    rw [startCommand_hash hmk hr]
    have hzero (b : Nat) : (s.startHash (BitVec.ofNat 8 i.opcode) m k).digByte b = 0 := by
      rw [State.digByte, State.startHash_dig, Vector.toList_replicate, getD_replicate_zero]
    exact {
      memory := ⟨h.memory.sorted, h.memory.inside, h.memory.size⟩
      status := ⟨fun _ => ⟨hdone, herr⟩, h.status.errFlags, h.status.noError, h.status.codes, .inl rfl⟩
      sequencer := ⟨⟨fun hb => (by cases hb), fun hp => (by cases hp)⟩, fun hp => (by cases hp), fun _ =>
        { mdl := hm
          passes := ⟨le_rfl, Nat.pos_of_ne_zero hk, hbound⟩
          rounds := rfl
          window := hfits
          dlen := rfl
          digTail := fun b _ => hzero b
          first := fun _ => rfl
          rates := fun hinit => absurd rfl hinit
          fromMsg := fun hinit => absurd rfl hinit
          fromDig := fun hinit => absurd rfl hinit
          tail := fun htail => by cases htail }⟩
      digest := fun _ b _ => hzero b }

end

theorem Inv.withAnswer {s : State} (h : Inv s) (a : Answer) : Inv (s.withAnswer a) :=
  h.update s.lanes s.cmd s.events (some a)

/-- R37: after reset, on a memory of at least one byte. -/
theorem Inv.afterReset {msgSize : Nat} (hsize : 1 ≤ msgSize) (resets : Nat) (es : List Event) :
    Inv (State.afterReset msgSize resets es) := by
  refine .of_idle ⟨rfl, fun c hc => (by cases hc), hsize⟩ ⟨fun hb => (by cases hb), fun he => (by cases he),
    fun _ => rfl, Nat.zero_le _, .inl rfl⟩ rfl rfl fun b _ => ?_
  rw [State.digByte]
  exact (congrArg (List.getD · b 0) Vector.toList_replicate).trans (getD_replicate_zero 64 b)

/-- Settles O55: `State.reset` is a state after reset. -/
theorem resetMeetsTheInvariant : Obligations.ResetMeetsTheInvariant :=
  .afterReset (by decide) 0 []

/-! ### The engine keeps it -/

theorem Continues.inv {s t : State} (h : Inv s) (hbusy : s.busy = true) (hk : OperandsKept s t) (hc : Continues s t) :
    Inv t := by
  obtain ⟨⟨hb, hdone, herr, hecode, hdlen⟩, hrunning, -⟩ := hc
  have hidle : t.phase ≠ .idle → (t.busy = false ↔ t.phase = .idle) := fun hphase =>
    ⟨fun hf => (by rw [hb, hbusy] at hf; cases hf), fun hp => absurd hp hphase⟩
  have hstatus : StatusOk t := by
    constructor
    all_goals simp only [hb, hdone, herr, hecode, hdlen]
    · exact h.status.busyFlags
    · exact h.status.errFlags
    · exact h.status.noError
    · exact h.status.codes
    · exact h.status.lengths
  refine ⟨h.memory.of_kept hk, hstatus, ?sequencer, fun hhash => ?digest⟩
  case sequencer =>
    rcases hrunning with ⟨-, hphase, hrounds⟩ | ⟨hhash, hok⟩
    · exact ⟨hidle (by simp [hphase]), fun _ => ⟨hrounds.1, hrounds.2.1⟩, fun hp => by rw [hphase] at hp; cases hp⟩
    · refine ⟨hidle ?_, ?_, fun _ => hok⟩
      all_goals
        intro hp
        rw [hp] at hhash
        cases hhash
  case digest =>
    rcases hrunning with ⟨hs, -, -, -, hdig⟩ | ⟨ht, -⟩
    · simp only [State.digByte, hdig, hdlen]
      exact h.digest (by rw [hs]; rfl)
    · rw [ht] at hhash
      cases hhash

theorem Ends.inv {s t : State} (h : Inv s) (hbusy : s.busy = true) (hk : OperandsKept s t) (he : Ends s t) : Inv t := by
  obtain ⟨⟨hb, hdone, hphase, herr, hecode⟩, hlengths, hdigest, -⟩ := he
  have hnone := (h.status.busyFlags hbusy).2
  have hzero := h.status.noError hnone
  refine .of_idle (h.memory.of_kept hk) ⟨fun hf => ?_, fun hf => ?_, fun _ => ?_, ?_, hlengths⟩ hb hphase hdigest
  · rw [hb] at hf
    cases hf
  · rw [herr, hnone] at hf
    cases hf
  · rw [hecode, hzero]
  · rw [hecode, hzero]
    exact Nat.zero_le _

theorem Inv.advance {s : State} (h : Inv s) : Inv s.advance := by
  cases hbusy : s.busy with
  | false => rwa [State.advance_not_busy hbusy]
  | true =>
    rcases h.advance_cases hbusy with hc | he
    · exact hc.inv h hbusy s.advance_kept
    · exact he.inv h hbusy s.advance_kept

theorem Inv.run {s : State} (h : Inv s) (n : Nat) : Inv (State.run n s) := by
  induction n generalizing s with
  | zero => exact h
  | succ n ih => exact ih h.advance

theorem Inv.finish {s : State} (h : Inv s) : Inv s.finish := h.run _

/-! ### The host and reset keep it -/

theorem Inv.respond {s : State} {t : Transaction} (h : Inv s) (ht : s.allows t = false ∨ t.cmdWord = none) :
    Inv (s.respond t) := by
  cases hallowed : s.allows t with
  | false =>
    rw [respond_refused hallowed]
    exact h.withAnswer .error
  | true =>
    rw [respond_allowed hallowed]
    cases hbusy : s.busy with
    | true =>
      obtain ⟨hlock, -⟩ := allows_iff.mp hallowed
      obtain rfl := hlock.resolve_left (by simp [hbusy])
      exact h.withAnswer _
    | false =>
      obtain ⟨a, hp⟩ | ⟨v, hp⟩ | ⟨v, hp⟩ | ⟨i, v, hp⟩ | ⟨a, vs, hin, hp⟩ :=
        perform_cases hallowed (ht.resolve_left (by simp [hallowed]))
      all_goals rw [hp]
      · exact h.withAnswer a
      · exact (h.writeOperands hbusy v s.inLen).withAnswer .ok
      · exact (h.writeOperands hbusy s.inAddr v).withAnswer .ok
      · exact h.update (s.lanes.set i v) s.cmd s.events (some .ok)
      · exact (h.writeMsg hbusy hin).withAnswer .ok

/-- R71: whatever word is issued, in the state that has latched it. -/
theorem Inv.issue {s t : State} {w : Word} {wait : Bool} (h : Inv s) (hbusy : s.busy = false) (hdone : s.done = false)
    (herr : s.err = false) (ht : issue w wait s = .next t) : Inv t := by
  cases hw : decode w with
  | error e =>
    obtain rfl := next_unique ht (issue_illegal hw wait s)
    exact h.recordError hbusy _
  | ok i =>
    cases hr : refusalOf i s with
    | some e =>
      obtain rfl := next_unique ht (issue_refused hw hr hbusy wait)
      exact h.recordError hbusy e
    | none =>
      have hstart := h.startCommand hbusy hdone herr (wellFormed_of_decode hw) hr
      cases wait with
      | false =>
        obtain rfl := next_unique ht (issue_start hw s)
        exact hstart
      | true =>
        obtain rfl := next_unique ht ((issue_wait hw s).trans (exec_eq_start i s))
        exact hstart.finish

theorem Inv.hostTurn {s u : State} {t : Transaction} {wait : Bool} (h : Inv s) (hu : hostTurn t wait s = .next u) :
    Inv u := by
  by_cases hplain : s.allows t = false ∨ t.cmdWord = none
  · obtain rfl := next_unique hu (hostTurn_plain hplain wait)
    split_ifs
    · exact (h.respond hplain).finish
    · exact h.respond hplain
  · push Not at hplain
    obtain ⟨w, hw⟩ := Option.ne_none_iff_exists'.mp hplain.2
    obtain rfl := cmdWord_eq_some_iff.mp hw
    obtain ⟨hbusy, -⟩ := allows_writeReg_iff.mp (Bool.eq_true_of_not_eq_false hplain.1)
    exact ((h.latch hbusy w).withAnswer .ok).issue hbusy rfl rfl ((hostTurn_issue hbusy w wait).symm.trans hu)

/-- Settles O54: the three kinds of events, each by its own lemma. -/
theorem stepKeepsTheInvariant : Obligations.StepKeepsTheInvariant := by
  intro s t h ht
  cases hevents : s.events with
  | nil =>
    obtain rfl := next_unique ht (step_no_event hevents)
    exact h.advance
  | cons e rest =>
    rw [step_event hevents] at ht
    have hrest : Inv { s with events := rest } := h.update s.lanes s.cmd rest s.answer
    cases e with
    | host tr wait => exact hrest.hostTurn ht
    | engine =>
      obtain rfl := Host.Outcome.next.inj ht
      exact hrest.advance
    | reset =>
      obtain rfl := Host.Outcome.next.inj ht
      exact .afterReset h.memory.size _ _

/-! ### What it says of a running command -/

/-- Settles O49: the invariant gives each field of `STATUS` while a command runs. -/
theorem busyStatusReads : Obligations.BusyStatusReads := by
  intro s h hbusy
  obtain ⟨hdone, herr⟩ := h.status.busyFlags hbusy
  have hword : s.statusWord = BitVec.ofNat 64 (1 + 2 ^ 16 * s.dlen.toNat) := by
    rw [State.statusWord, hbusy, hdone, herr, h.status.noError herr]
    rfl
  refine ⟨hword, fun hhash => ?_⟩
  rw [hword, (h.sequencer.hash hhash).dlen]
  rfl

/-- Settles O51: both ends of `Inv.advance_cases` count one step. -/
theorem engineCountsDown : Obligations.EngineCountsDown := by
  intro s h hbusy
  rcases h.advance_cases hbusy with hc | he
  · exact hc.steps
  · rw [State.stepsLeft_idle he.completed.busy, he.steps]

/-- R190: a command leaves `BUSY` only by completing. -/
theorem Inv.run_done {s : State} (h : Inv s) (hbusy : s.busy = true) {n : Nat} (hn : (State.run n s).busy = false) :
    (State.run n s).done = true := by
  induction n generalizing s with
  | zero =>
    rw [State.run_zero, hbusy] at hn
    cases hn
  | succ n ih =>
    rcases h.advance_cases hbusy with hc | he
    · exact ih h.advance (hc.status.busy.trans hbusy) hn
    · rw [State.run_succ, State.run_not_busy he.completed.busy]
      exact he.completed.done

theorem Inv.run_busy {s : State} (h : Inv s) (hbusy : s.busy = true) (n : Nat) :
    (State.run n s).busy = decide (n < s.stepsLeft) := by
  have hcount := engineCountsDown s h hbusy
  induction n generalizing s with
  | zero => simp [hbusy, ← hcount]
  | succ n ih =>
    have hlt : n + 1 < s.stepsLeft ↔ n < s.advance.stepsLeft := by omega
    rw [State.run_succ, decide_eq_decide.mpr hlt]
    rcases h.advance_cases hbusy with hc | he
    · have hrunning := hc.status.busy.trans hbusy
      exact ih h.advance hrunning (engineCountsDown _ h.advance hrunning)
    · rw [State.run_not_busy he.completed.busy, State.stepsLeft_idle he.completed.busy, he.completed.busy]
      rfl

/-- Settles O52: busy by `Inv.run_busy`, an induction along the run; done by `Inv.run_done`; no step raises an error. -/
theorem runningCommandCompletesOnTime : Obligations.RunningCommandCompletesOnTime := by
  intro s h hbusy
  obtain ⟨herr, hecode⟩ := State.run_error s.stepsLeft s
  have hnone := (h.status.busyFlags hbusy).2
  have hend : (State.run s.stepsLeft s).busy = false := by rw [h.run_busy hbusy]; simp
  refine ⟨h.run_busy hbusy, ⟨hend, h.run_done hbusy hend, (h.run _).phase_idle hend, herr, hecode⟩,
    herr.trans hnone, hecode.trans (h.status.noError hnone)⟩

end Sys2Proof.Machine
end
